-- ==== Sys2Proof/Word.lean ====
section
/-! DEFINITION. The value types of rule R9: bytes, registers, register indices, and the seven-byte buffer. -/

namespace Sys2Proof

/-- A byte: an unsigned 8-bit value (R9). -/
abbrev Byte := BitVec 8

/-- A host-visible register: an unsigned 16-bit value (R9, R21). -/
abbrev Word := BitVec 16

/-- The index of a host-visible register, 0x00 to 0x1F (R21, R60). -/
abbrev RegIndex := BitVec 5

/-- Seven bytes, one for each register `RX0`..`RX6` or `TX0`..`TX6` (R31, R32). -/
structure Buf where
  b0 : Byte
  b1 : Byte
  b2 : Byte
  b3 : Byte
  b4 : Byte
  b5 : Byte
  b6 : Byte
  deriving DecidableEq, Repr

end Sys2Proof
end

