-- ==== Sys2Proof/Config.lean ====
section
/-! DEFINITION. What an instance of the engine fixes (R6, R7) and what the spec leaves free (R66, R171). -/

namespace Sys2Proof

/-- One answer of the duplex channel to a read attempt: an error, or the bytes it gives (R66). -/
inductive Answer where
  /-- The channel reports an error; the read counts as `n` = 0 (R66, D18). -/
  | error
  /-- The channel gives these bytes; one attempt takes at most seven of them (R66). -/
  | bytes (bs : List Byte)
  deriving DecidableEq, Repr, Inhabited

/-- The parameters that a model takes as an argument: those of rule R6 and the platform's of rule R71.
DESIGN CHOICE (safe, log 5): they stand in State, which no step changes (R7). -/
structure Params where
  /-- `MAX_ATTEMPTS`, legal range 1..255. -/
  maxAttempts : Byte
  /-- `INFO_RETRY_MAX`, legal range 0..255. -/
  infoRetryMax : Byte
  /-- The base of the register block in the host's own address space, the platform's choice (R71).
  DESIGN CHOICE (safe, log 21): addresses are counted in whole registers. -/
  registerBase : Nat
  deriving DecidableEq, Repr

/-- The default parameters of R6; the base has no default in the spec (DESIGN CHOICE 0, log 21). -/
def Params.default : Params := ⟨10#8, 10#8, 0⟩

/-- The legal range of the parameters (R6): only `MAX_ATTEMPTS` = 0 lies outside it. -/
abbrev Params.Legal (p : Params) : Prop := p.maxAttempts ≠ 0#8

/-- FREE VALUE (R66, I5; log 3): what the channel answers to its `k`-th unscripted read attempt. -/
opaque Config.channelDraw : Nat → Answer

/-- FREE VALUE (R171, I10; log 20): the display texts the source does not give. -/
opaque Config.statusTextUnstated : Byte → String

end Sys2Proof
end

