-- ==== Sys2Proof/Syntax.lean ====
section
/-! DEFINITION. The instructions: one constructor for each row of spec/opcode_table.json. -/

namespace Sys2Proof

/-- The fields of a request word other than `OP` (R80). All are kept, since `REQ` stores every bit written (R85). -/
structure ReqFields where
  /-- `ARG` [15:8] -/
  arg : Byte
  /-- `VERBOSE` [7] -/
  verbose : Bool
  /-- `ACTION` [6:4] -/
  action : BitVec 3
  /-- reserved bit [3] -/
  rsv : Bool
  deriving DecidableEq, Repr

/-- The closed set of actions (R83). -/
inductive Action where
  | up
  | down
  | stop
  | tilt
  | intermediate
  deriving DecidableEq, Repr

/-- The instructions. Request words run at acceptance (R192); an outbound frame runs in the engine's TX step
(R197); a response buffer runs in its DECIDE step (R200). DESIGN CHOICE (safe, log 7): the wire rows of the
table are instructions of the engine. -/
inductive Instr where
  /-- `CHECK`, `OP` = 001 (R201). -/
  | check (f : ReqFields)
  /-- `SEND`, `OP` = 010 (R198). -/
  | send (f : ReqFields)
  /-- `INFO`, `OP` = 011 (R202). -/
  | info (f : ReqFields)
  /-- `CKSCLR`, `OP` = 100 (R115). -/
  | cksclr (f : ReqFields)
  /-- `CKSADD`, `OP` = 101 (R116). -/
  | cksadd (f : ReqFields)
  /-- reserved `OP` = 000 (R193). -/
  | reservedOp000 (f : ReqFields)
  /-- reserved `OP` = 110 (R193). -/
  | reservedOp110 (f : ReqFields)
  /-- reserved `OP` = 111 (R193). -/
  | reservedOp111 (f : ReqFields)
  /-- `AA 02 4A cs` (R89, R133). -/
  | frameCheck (cs : Byte)
  /-- `AA 05 4C hi lo key cs` (R90, R134). -/
  | frameSend (hi lo key cs : Byte)
  /-- `AA 04 4E hi lo cs` (R91, R135). -/
  | frameInfo (hi lo cs : Byte)
  /-- `AA len 4B mh ml b5 b6` (R92, R172). -/
  | respConfirm (len mh ml b5 b6 : Byte)
  /-- `AA len 4D b3 b4 st b6` (R92, R173). -/
  | respAck (len b3 b4 st b6 : Byte)
  /-- `AA len code b3 b4 b5 b6`, `code` neither 4B nor 4D (R94). -/
  | respOther (len code b3 b4 b5 b6 : Byte)
  deriving DecidableEq, Repr

end Sys2Proof
end

