-- ==== Sys2Proof/Machine/Checksum.lean ====
section
/-! DEFINITION. The checksum function (R110): the negation of the byte sum modulo 256. -/

namespace Sys2Proof

/-- `sum(m)`: the integer sum of the bytes, unbounded (R9, R110). -/
def byteSum : List Byte → Nat
  | [] => 0
  | b :: bs => b.toNat + byteSum bs

/-- `checksum(m) = (256 - (sum(m) mod 256)) mod 256` (R110). -/
def checksum (m : List Byte) : Byte := BitVec.ofNat 8 ((256 - byteSum m % 256) % 256)

end Sys2Proof
end

