-- ==== Sys2Proof/Machine/Wire.lean ====
section
/-! DEFINITION. The constants of the wire format (R6, R86 to R91) and the seven-byte buffer as a byte sequence. -/

namespace Sys2Proof

/-- `START_MARKER` (R6, R86). -/
def startMarker : Byte := 0xAA#8

/-- Command code of a Check frame (R88). -/
def cmdCheck : Byte := 0x4A#8
/-- Command code of a Confirm response (R88). -/
def cmdConfirm : Byte := 0x4B#8
/-- Command code of a Send frame (R88). -/
def cmdSend : Byte := 0x4C#8
/-- Command code of an Ack response (R88). -/
def cmdAck : Byte := 0x4D#8
/-- Command code of an Info frame (R88). -/
def cmdInfo : Byte := 0x4E#8

/-- Length byte of a Check frame (R89). -/
def lenCheck : Byte := 0x02#8
/-- Length byte of a Send frame (R90). -/
def lenSend : Byte := 0x05#8
/-- Length byte of an Info frame (R91). -/
def lenInfo : Byte := 0x04#8

/-- `RESP_LEN`: the bytes asked for by each read attempt (R6). -/
def respLen : Nat := 7

/-- The buffer of all zeros: the fresh buffer of R151. -/
def Buf.zero : Buf := ⟨0#8, 0#8, 0#8, 0#8, 0#8, 0#8, 0#8⟩

/-- The seven bytes at offsets 0 to 6. -/
def Buf.toList (b : Buf) : List Byte := [b.b0, b.b1, b.b2, b.b3, b.b4, b.b5, b.b6]

/-- The buffer that holds the first seven bytes of a sequence, zeros past its end (R137, R151). -/
def Buf.ofList (bs : List Byte) : Buf :=
  ⟨bs.getD 0 0#8, bs.getD 1 0#8, bs.getD 2 0#8, bs.getD 3 0#8, bs.getD 4 0#8, bs.getD 5 0#8, bs.getD 6 0#8⟩

end Sys2Proof
end

