-- ==== Sys2Proof/Machine/Operands.lean ====
section
/-! DEFINITION. Operand assembly (R93): the request word's fields, channels and their mask bytes, actions and
their key codes, host addresses, the fields of a response, and the learned test. -/

namespace Sys2Proof

/-! ## The fields of a request word (R80) -/

/-- `OP` [2:0]. -/
def reqOp (w : Word) : BitVec 3 := w.extractLsb' 0 3
/-- The reserved bit [3]. -/
def reqRsv (w : Word) : Bool := w.getLsbD 3
/-- `ACTION` [6:4]. -/
def reqAction (w : Word) : BitVec 3 := w.extractLsb' 4 3
/-- `VERBOSE` [7]. -/
def reqVerbose (w : Word) : Bool := w.getLsbD 7
/-- `ARG` [15:8]. -/
def reqArg (w : Word) : Byte := w.extractLsb' 8 8

/-- `OP` of `CHECK` (R81). -/
def opCheck : BitVec 3 := 0b001#3
/-- `OP` of `SEND` (R81). -/
def opSend : BitVec 3 := 0b010#3
/-- `OP` of `INFO` (R81). -/
def opInfo : BitVec 3 := 0b011#3
/-- `OP` of `CKSCLR` (R81). -/
def opCksclr : BitVec 3 := 0b100#3
/-- `OP` of `CKSADD` (R81). -/
def opCksadd : BitVec 3 := 0b101#3

/-! ## Channels (R82, R130 to R132) -/

/-- The legal channels, 1..16 (R82). -/
def validChannel (arg : Byte) : Bool := 1 ≤ arg.toNat && arg.toNat ≤ 16

/-- `chan_to_mask(c) -> (hi, lo)` (R130); `none` outside its domain 1..16 (R132, I1). -/
def chanToMask (c : Nat) : Option (Byte × Byte) :=
  if 1 ≤ c ∧ c ≤ 8 then some (0x00#8, BitVec.ofNat 8 ((1 <<< (c - 1)) &&& 0xFF))
  else if 9 ≤ c ∧ c ≤ 16 then some (BitVec.ofNat 8 ((1 <<< (c - 9)) &&& 0xFF), 0x00#8)
  else none

/-- Two bytes as a 16-bit value, high byte first: `(hi << 8) | lo` (R67, R131). -/
def wordOfBytes (hi lo : Byte) : Word := (hi.setWidth 16 <<< 8) ||| lo.setWidth 16

/-- `is_learned(mask16, c)` for a channel 1..16 (R174). -/
def isLearned (m : Word) (c : Nat) : Bool := ((m.toNat >>> (c - 1)) &&& 1) == 1

/-! ## Actions (R83) -/

/-- The field value of an action, in the listing order of R83. -/
def Action.field : Action → BitVec 3
  | .up => 0#3
  | .down => 1#3
  | .stop => 2#3
  | .tilt => 3#3
  | .intermediate => 4#3

/-- The action a field value selects; 5, 6 and 7 are reserved (R83). -/
def Action.ofField (a : BitVec 3) : Option Action :=
  match a.toNat with
  | 0 => some .up
  | 1 => some .down
  | 2 => some .stop
  | 3 => some .tilt
  | 4 => some .intermediate
  | _ => none

/-- The key code `KEY(a)` of an action (R83). -/
def Action.key : Action → Byte
  | .up => 0x20#8
  | .down => 0x40#8
  | .stop => 0x10#8
  | .tilt => 0x24#8
  | .intermediate => 0x44#8

/-- `KEY` of an `ACTION` field; `none` for the reserved values. -/
def keyOfField (a : BitVec 3) : Option Byte := (Action.ofField a).map Action.key

/-! ## Host addresses of registers (R71) -/

/-- The host's address of a register: the base of the block and the register's index (R71, R34). -/
def Params.address (p : Params) (i : RegIndex) : Nat := p.registerBase + i.toNat

/-- The register at an address of the host; `none` outside the 32-register block, where the EPE has nothing (R71). -/
def Params.registerAt (p : Params) (addr : Nat) : Option RegIndex :=
  if p.registerBase ≤ addr ∧ addr < p.registerBase + 32 then some (BitVec.ofNat 5 (addr - p.registerBase)) else none

/-! ## Responses (R152, R170 to R175) -/

/-- The start-marker detector (R152). -/
def markerOk (n : Nat) (buf : Buf) : Bool := 1 ≤ n && buf.b0 == startMarker

/-- `ExtractChannelMask`: `(rx[3] << 8) | rx[4]` (R172). -/
def extractChannelMask (rx3 rx4 : Byte) : Word := wordOfBytes rx3 rx4

/-- `ExtractAckStatus`: `rx[5]` unchanged (R173). -/
def extractAckStatus (rx5 : Byte) : Byte := rx5

/-- `known(s)`: one of the 17 defined device status values (R170). -/
def knownStatus (s : Byte) : Bool := s.toNat ≤ 0x11 && s.toNat != 0x0C

/-- `STATUS_TEXT` (R171): informative; the texts the source does not give are free (log 20). -/
def statusText (s : Byte) : String :=
  if s = 0x00#8 then "No information"
  else if s = 0x0A#8 then "Moving up"
  else if knownStatus s then Config.statusTextUnstated s
  else "Unknown"

/-! ## Frame construction (R133 to R136): pure functions of their operands -/

/-- A frame from the bytes before its checksum (R113). -/
def withChecksum (p : List Byte) : List Byte := p ++ [checksum p]

/-- `BuildCheck()` (R133). -/
def buildCheck : List Byte := withChecksum [startMarker, lenCheck, cmdCheck]

/-- `BuildSend(c, key)` (R134); `none` for a channel outside 1..16 (R132). -/
def buildSend (c : Nat) (key : Byte) : Option (List Byte) :=
  (chanToMask c).map fun m => withChecksum [startMarker, lenSend, cmdSend, m.1, m.2, key]

/-- `BuildInfo(c)` (R135); `none` for a channel outside 1..16 (R132). -/
def buildInfo (c : Nat) : Option (List Byte) :=
  (chanToMask c).map fun m => withChecksum [startMarker, lenInfo, cmdInfo, m.1, m.2]

end Sys2Proof
end

