-- ==== Sys2Proof/WellFormed.lean ====
section
/-! DEFINITION. Which instructions are well formed: every request word is (R85, R98 `.word`); an outbound frame is
when the Frame Builder can build it (R133 to R135); a response is when its row's command code is the right one (R94). -/

namespace Sys2Proof

/-- The two mask bytes are those of some channel 1..16 (R130). -/
def isChannelMask (hi lo : Byte) : Bool :=
  (List.range 16).any fun k => chanToMask (k + 1) == some (hi, lo)

/-- The byte is the key code of some action (R83). -/
def isKey (key : Byte) : Bool :=
  [Action.up, .down, .stop, .tilt, .intermediate].any fun a => a.key == key

/-- Well-formedness of an instruction. -/
def Instr.wellFormed : Instr → Bool
  | .check _ => true
  | .send _ => true
  | .info _ => true
  | .cksclr _ => true
  | .cksadd _ => true
  | .reservedOp000 _ => true
  | .reservedOp110 _ => true
  | .reservedOp111 _ => true
  | .frameCheck cs => cs == checksum [startMarker, lenCheck, cmdCheck]
  | .frameSend hi lo key cs =>
    isChannelMask hi lo && isKey key && cs == checksum [startMarker, lenSend, cmdSend, hi, lo, key]
  | .frameInfo hi lo cs => isChannelMask hi lo && cs == checksum [startMarker, lenInfo, cmdInfo, hi, lo]
  | .respConfirm _ _ _ _ _ => true
  | .respAck _ _ _ _ _ => true
  | .respOther _ code _ _ _ _ => code != cmdConfirm && code != cmdAck

end Sys2Proof
end

