-- ==== Sys2Proof/Decode.lean ====
section
/-! DEFINITION. Decoding and encoding (R80, R81, R86 to R97). The same bytes mean different things on different
ports, so what is decoded says where it stands: in the request register, in the Frame Builder's output, or in the
response buffer. -/

namespace Sys2Proof

/-- What the machine decodes, and on which port it stands (log 9). -/
inductive Code where
  /-- a word written to `REQ` (R80) -/
  | request (w : Word)
  /-- a frame on its way to the serial port (R86) -/
  | wireOut (frame : List Byte)
  /-- a response buffer (R92) -/
  | wireIn (buf : List Byte)
  deriving DecidableEq, Repr

/-- Why bytes are no instruction. -/
inductive DecodeError where
  /-- offset 0 is not 0xAA (R86, R152) -/
  | noStartMarker
  /-- the number of bytes is not the one the frame's shape has (R97) -/
  | wrongByteCount
  /-- the length byte is not the one its command code has (R87) -/
  | wrongLengthByte
  /-- an outbound frame's command code is none of 4A, 4C, 4E (R96) -/
  | unknownCommand
  deriving DecidableEq, Repr

/-! ## Decoding -/

/-- The fields of a request word other than `OP` (R80). -/
def decodeFields (w : Word) : ReqFields := ⟨reqArg w, reqVerbose w, reqAction w, reqRsv w⟩

/-- A request word: every word is one of the eight rows (R81). -/
def decodeRequest (w : Word) : Instr :=
  match (reqOp w).toNat with
  | 0 => .reservedOp000 (decodeFields w)
  | 1 => .check (decodeFields w)
  | 2 => .send (decodeFields w)
  | 3 => .info (decodeFields w)
  | 4 => .cksclr (decodeFields w)
  | 5 => .cksadd (decodeFields w)
  | 6 => .reservedOp110 (decodeFields w)
  | _ => .reservedOp111 (decodeFields w)

/-- An outbound frame (R88 to R91). Its rows fix offsets 0 to 2; the payload and the checksum are taken as they
stand (log 11). -/
def decodeFrame : List Byte → Except DecodeError Instr
  | marker :: len :: code :: payload =>
    if marker ≠ startMarker then .error .noStartMarker
    else if code = cmdCheck then
      if len ≠ lenCheck then .error .wrongLengthByte
      else match payload with
        | [cs] => .ok (.frameCheck cs)
        | _ => .error .wrongByteCount
    else if code = cmdSend then
      if len ≠ lenSend then .error .wrongLengthByte
      else match payload with
        | [hi, lo, key, cs] => .ok (.frameSend hi lo key cs)
        | _ => .error .wrongByteCount
    else if code = cmdInfo then
      if len ≠ lenInfo then .error .wrongLengthByte
      else match payload with
        | [hi, lo, cs] => .ok (.frameInfo hi lo cs)
        | _ => .error .wrongByteCount
    else .error .unknownCommand
  | _ => .error .wrongByteCount

/-- A response buffer: seven bytes, classified by the command code alone (R92, R94). -/
def decodeResponse : List Byte → Except DecodeError Instr
  | [marker, len, code, b3, b4, b5, b6] =>
    if marker ≠ startMarker then .error .noStartMarker
    else if code = cmdConfirm then .ok (.respConfirm len b3 b4 b5 b6)
    else if code = cmdAck then .ok (.respAck len b3 b4 b5 b6)
    else .ok (.respOther len code b3 b4 b5 b6)
  | _ => .error .wrongByteCount

/-- The decoder, total on every port's words and bytes. -/
def decode : Code → Except DecodeError Instr
  | .request w => .ok (decodeRequest w)
  | .wireOut frame => decodeFrame frame
  | .wireIn buf => decodeResponse buf

/-! ## Encoding -/

/-- A request word from its `OP` and its other fields: `ARG<<8 | VERBOSE<<7 | ACTION<<4 | rsv<<3 | OP` (R80, R98). -/
def encodeRequest (op : BitVec 3) (f : ReqFields) : Word :=
  (f.arg.setWidth 16 <<< 8) ||| ((BitVec.ofBool f.verbose).setWidth 16 <<< 7) ||| (f.action.setWidth 16 <<< 4)
    ||| ((BitVec.ofBool f.rsv).setWidth 16 <<< 3) ||| op.setWidth 16

/-- The encoder. -/
def encode : Instr → Code
  | .check f => .request (encodeRequest opCheck f)
  | .send f => .request (encodeRequest opSend f)
  | .info f => .request (encodeRequest opInfo f)
  | .cksclr f => .request (encodeRequest opCksclr f)
  | .cksadd f => .request (encodeRequest opCksadd f)
  | .reservedOp000 f => .request (encodeRequest 0b000#3 f)
  | .reservedOp110 f => .request (encodeRequest 0b110#3 f)
  | .reservedOp111 f => .request (encodeRequest 0b111#3 f)
  | .frameCheck cs => .wireOut [startMarker, lenCheck, cmdCheck, cs]
  | .frameSend hi lo key cs => .wireOut [startMarker, lenSend, cmdSend, hi, lo, key, cs]
  | .frameInfo hi lo cs => .wireOut [startMarker, lenInfo, cmdInfo, hi, lo, cs]
  | .respConfirm len mh ml b5 b6 => .wireIn [startMarker, len, cmdConfirm, mh, ml, b5, b6]
  | .respAck len b3 b4 st b6 => .wireIn [startMarker, len, cmdAck, b3, b4, st, b6]
  | .respOther len code b3 b4 b5 b6 => .wireIn [startMarker, len, code, b3, b4, b5, b6]

/-! ## Words numbered as the opcode table numbers them -/

/-- The bytes of a wire row's word: the table reads offsets 0, 1, 2, … as one big-endian value (log 10). -/
def tableBytes (nbits w : Nat) : List Byte :=
  (List.range (nbits / 8)).map fun j => BitVec.ofNat 8 (w >>> (8 * (nbits / 8 - 1 - j)))

/-- How many bytes the outbound frame that begins with these three bytes has; `none` where it is no outbound
frame (R97, the table's 24-bit matches). -/
def frameBytes (b0 b1 b2 : Byte) : Option Nat :=
  if b0 ≠ startMarker then none
  else if b1 = lenCheck ∧ b2 = cmdCheck then some 4
  else if b1 = lenSend ∧ b2 = cmdSend then some 7
  else if b1 = lenInfo ∧ b2 = cmdInfo then some 6
  else none

/-- Zeros up to a length. -/
def padTo (n : Nat) (bs : List Byte) : List Byte := bs ++ List.replicate (n - bs.length) 0#8

/-- A table word on its port: 16 bits are a request word; 24 or more are a wire row, an outbound frame where
offsets 0 to 2 are one's, else a response buffer (log 9); operand bytes the table gives no bits are zeros. -/
def tableCode (nbits w : Nat) : Option Code :=
  if nbits = 16 then some (.request (BitVec.ofNat 16 w))
  else match tableBytes nbits w with
    | b0 :: b1 :: b2 :: rest =>
      match frameBytes b0 b1 b2 with
      | some n => some (.wireOut (padTo n (b0 :: b1 :: b2 :: rest)))
      | none => some (.wireIn (padTo respLen (b0 :: b1 :: b2 :: rest)))
    | _ => none

/-- The instruction the decoder reads from a table word. -/
def decodeTableWord (nbits w : Nat) : Option Instr :=
  match tableCode nbits w with
  | none => none
  | some c =>
    match decode c with
    | .ok i => some i
    | .error _ => none

end Sys2Proof
end

