-- ==== Sys2Proof/Machine/State.lean ====
section
/-! DEFINITION. The state of the machine: the engine's registers and hidden state (R20 to R47), and, as plain data
beside them, the other agents: whose turn it is, what the channel answers, what was seen on the ports. -/

namespace Sys2Proof.Machine

/-- `st.fsm`, the sequencer state (R40, R190). -/
inductive Fsm where
  | idle
  | tx
  | read
  | sleep
  | decide
  deriving DecidableEq, Repr

/-- `st.phase`, the frame type the exchange is on (R40, R190). -/
inductive Phase where
  | chk
  | snd
  | inf
  deriving DecidableEq, Repr

/-- The result codes (R231). DEDUCED (safe, log 6): an enumeration, since 0x08..0xFF are never produced. -/
inductive ResultCode where
  | ok
  | timeout
  | invalidResponse
  | channelNotLearned
  | badChannel
  | badAction
  | badOp
  | infoRetryExhausted
  deriving DecidableEq, Repr

/-- A serial event (R65, R66). -/
inductive SerialEvent where
  /-- `Write(frame)`: one write of a whole frame. -/
  | write (frame : List Byte)
  /-- `Read(n, bytes)`: one read attempt; `n` is the number of bytes. -/
  | read (bs : List Byte)
  deriving DecidableEq, Repr

/-- A diagnostic event `Diag(buf, n)` (R156). -/
structure DiagEvent where
  buf : Buf
  n : Nat
  deriving DecidableEq, Repr

/-- One entry of the total order of R63. DESIGN CHOICE (safe, log 1, 19): which agent moves next is data. -/
inductive Turn where
  /-- the engine takes its step (R191) -/
  | engine
  /-- the host's `RegRead(i)` (R61) -/
  | hostRead (i : RegIndex)
  /-- the host's `RegWrite(i, v)` (R62) -/
  | hostWrite (i : RegIndex) (v : Word)
  /-- the host reads an address of its own address space (R71; log 21) -/
  | hostLoad (addr : Nat)
  /-- the host writes an address of its own address space (R71; log 21) -/
  | hostStore (addr : Nat) (v : Word)
  /-- the host is in the loop `wait` (R99) -/
  | hostWait
  /-- the reset input (R260 to R262) -/
  | reset
  deriving DecidableEq, Repr

/-- Why the machine has no step. The EPE itself raises no fault (R230, R238): both arise only in states that no
run reaches, and both are safe (log 12). -/
inductive Fault where
  /-- Raised by the frame and response instructions when the engine is not in the state whose step they are: R191
  enables one step in each state. Safe. -/
  | stepNotEnabled
  /-- Raised by the response instructions when the table of R200 has no row for the phase and `REQ.OP`. Safe. -/
  | noDecideRule
  deriving DecidableEq, Repr

/-- Why the model gives no meaning. All are safe. -/
inductive Refusal where
  /-- Raised by `exec` for an instruction not modelled yet. Safe. -/
  | notModelled (mnemonic : String)
  /-- Raised by the TX and DECIDE steps when `REQ.ARG` is no channel 1..16: the operand of chan_to_mask and
  is_learned is undefined there (R132, R174, I1 `refuse`). No run reaches it. Safe (log 12). -/
  | channelPrecondition
  /-- Raised by the TX step when `REQ.ACTION` has no key code (R83). No run reaches it. Safe (log 12). -/
  | actionPrecondition
  /-- Raised by `step` when the fetched bytes are no frame (R96). No run reaches it. Safe (log 12). -/
  | undecodable (e : DecodeError)
  deriving DecidableEq, Repr

/-- The state. -/
structure State where
  /-- `REQ` (R22) -/
  req : Word
  /-- `STATUS.BUSY` (R23) -/
  busy : Bool
  /-- `STATUS.DONE` (R23) -/
  done : Bool
  /-- `STATUS.REJ` (R23) -/
  rej : Bool
  /-- `STATUS.MASK_VALID` (R23) -/
  maskValid : Bool
  /-- `STATUS.ACK_VALID` (R23) -/
  ackValid : Bool
  /-- `STATUS.RESULT` (R23, R231) -/
  result : ResultCode
  /-- `MASK` (R25) -/
  mask : Word
  /-- `ACKST.DEVSTAT` (R26) -/
  devstat : Byte
  /-- `ACKST.KNOWN` (R26) -/
  known : Bool
  /-- `CKS.CKS_ACC` (R27) -/
  cksAcc : Byte
  /-- `COUNT.ATTEMPTS` (R28) -/
  attempts : Byte
  /-- `COUNT.RETRIES` (R28) -/
  retries : Byte
  /-- `TXLEN` (R29) -/
  txlen : Byte
  /-- `RXCNT` (R30) -/
  rxcnt : Byte
  /-- `RX0`..`RX6` (R31) -/
  rx : Buf
  /-- `TX0`..`TX6` (R32) -/
  tx : Buf
  /-- `st.fsm` (R40) -/
  fsm : Fsm
  /-- `st.phase` (R40) -/
  phase : Phase
  /-- the parameters, never written (R6, R7, R71; log 5, 21) -/
  params : Params
  /-- MODEL: the coming turns of the total order of R63; past its end every turn is the engine's (log 1) -/
  agenda : List Turn
  /-- the channel's coming answers (R43, R66); past their end answers are free (log 3) -/
  channel : List Answer
  /-- MODEL: how many free answers have been drawn (log 3) -/
  draws : Nat
  /-- the serial events so far, oldest first (R65, R66) -/
  trace : List SerialEvent
  /-- the diagnostic output so far, oldest first (R156) -/
  diag : List DiagEvent
  /-- MODEL: what the host's reads returned, oldest first (R61; log 13) -/
  hostReads : List (RegIndex × Word)
  /-- MODEL: a frame given to the TX step from outside; `none` in every run from reset (log 8) -/
  staged : Option (List Byte)
  deriving DecidableEq, Repr

/-- The machine after reset: every register and the hidden state as R260 says; the parameters at `Params.default`
(R6); nothing scheduled, answered or seen (DESIGN CHOICE, log 23). -/
def State.reset : State where
  req := 0x0000#16
  busy := false
  done := false
  rej := false
  maskValid := false
  ackValid := false
  result := .ok
  mask := 0x0000#16
  devstat := 0x00#8
  known := false
  cksAcc := 0x00#8
  attempts := 0x00#8
  retries := 0x00#8
  txlen := 0x00#8
  rxcnt := 0x00#8
  rx := Buf.zero
  tx := Buf.zero
  fsm := .idle
  phase := .chk
  params := Params.default
  agenda := []
  channel := []
  draws := 0
  trace := []
  diag := []
  hostReads := []
  staged := none

end Sys2Proof.Machine
end

