-- ==== Sys2Proof/Machine/Flags.lean ====
section
/-! DEFINITION. The condition state (R23, R24): the result codes' numbers, the `STATUS` word, the output `done`. -/

namespace Sys2Proof.Machine

/-- The number of a result code (R231). -/
def ResultCode.toByte : ResultCode → Byte
  | .ok => 0x00#8
  | .timeout => 0x01#8
  | .invalidResponse => 0x02#8
  | .channelNotLearned => 0x03#8
  | .badChannel => 0x04#8
  | .badAction => 0x05#8
  | .badOp => 0x06#8
  | .infoRetryExhausted => 0x07#8

/-- The `STATUS` word (R23): `RESULT`[15:8], 0 [7:5], `ACK_VALID`[4], `MASK_VALID`[3], `REJ`[2], `DONE`[1], `BUSY`[0]. -/
def State.statusWord (s : State) : Word :=
  wordOfBytes s.result.toByte
    (((BitVec.ofBool s.ackValid).setWidth 8 <<< 4) ||| ((BitVec.ofBool s.maskValid).setWidth 8 <<< 3)
      ||| ((BitVec.ofBool s.rej).setWidth 8 <<< 2) ||| ((BitVec.ofBool s.done).setWidth 8 <<< 1)
      ||| (BitVec.ofBool s.busy).setWidth 8)

/-- The output signal `done`, equal to `STATUS.DONE` (R237). -/
def State.doneOutput (s : State) : Bool := s.done

/-- The flags of an extracted mask (R201, R202, R204): `MASK` and `MASK_VALID` together. -/
def State.setMask (m : Word) (s : State) : State := { s with mask := m, maskValid := true }

/-- The flags of an extracted device status (R203): `ACKST` and `ACK_VALID` together. -/
def State.setAck (st : Byte) (s : State) : State :=
  { s with devstat := st, known := knownStatus st, ackValid := true }

end Sys2Proof.Machine
end

