-- ==== Sys2Proof/Machine/Ops.lean ====
section
/-! DEFINITION. The named operations over the registers and the ports: register access, acceptance, completion,
transmission, one read attempt. -/

namespace Sys2Proof.Machine

/-! ## The register file (R34, R60, R61) -/

/-- The index of `STATUS`. -/
def statusIndex : RegIndex := 0x01#5

/-- The index of `CKS`. -/
def cksIndex : RegIndex := 0x04#5

/-- `CKS_OUT = (256 - CKS_ACC) mod 256` (R27, R114). -/
def State.cksOut (s : State) : Byte := BitVec.ofNat 8 ((256 - s.cksAcc.toNat) % 256)

/-- `RegRead(i)`: the map of R34; reserved registers and bits read 0 (R33). -/
def State.regRead (s : State) (i : RegIndex) : Word :=
  match i.toNat with
  | 0x00 => s.req
  | 0x01 => s.statusWord
  | 0x02 => s.mask
  | 0x03 => wordOfBytes ((BitVec.ofBool s.known).setWidth 8) s.devstat
  | 0x04 => wordOfBytes s.cksAcc s.cksOut
  | 0x05 => wordOfBytes s.retries s.attempts
  | 0x06 => s.txlen.setWidth 16
  | 0x07 => s.rxcnt.setWidth 16
  | 0x08 => s.rx.b0.setWidth 16
  | 0x09 => s.rx.b1.setWidth 16
  | 0x0A => s.rx.b2.setWidth 16
  | 0x0B => s.rx.b3.setWidth 16
  | 0x0C => s.rx.b4.setWidth 16
  | 0x0D => s.rx.b5.setWidth 16
  | 0x0E => s.rx.b6.setWidth 16
  | 0x10 => s.tx.b0.setWidth 16
  | 0x11 => s.tx.b1.setWidth 16
  | 0x12 => s.tx.b2.setWidth 16
  | 0x13 => s.tx.b3.setWidth 16
  | 0x14 => s.tx.b4.setWidth 16
  | 0x15 => s.tx.b5.setWidth 16
  | 0x16 => s.tx.b6.setWidth 16
  | _ => 0#16

/-- The host takes the value a read returns; the engine is untouched (R61). -/
def State.recordRead (i : RegIndex) (s : State) : State :=
  { s with hostReads := s.hostReads ++ [(i, s.regRead i)] }

/-! ## Completion, in place of taking an exception (R193, R233) -/

/-- `complete(code)` (R233). -/
def State.complete (code : ResultCode) (s : State) : State :=
  { s with result := code, busy := false, done := true, fsm := .idle }

/-- `immediate(code)` (R193): `BUSY` stays 0. -/
def State.immediate (code : ResultCode) (s : State) : State := { s with result := code, done := true }

/-! ## Acceptance (R192 to R196) -/

/-- `reject()` (R196): nothing changes but `REJ`. -/
def State.reject (s : State) : State := { s with rej := true }

/-- The acceptance of a word (R192), up to its dispatch. -/
def State.latchRequest (w : Word) (s : State) : State := { s with req := w, done := false, rej := false }

/-- `accept_or_reject(w)` with the word's own dispatch (R192). -/
def State.accept (w : Word) (dispatch : State → State) (s : State) : State :=
  if s.busy then s.reject else dispatch (s.latchRequest w)

/-- `start_exchange` with its first phase (R195). -/
def State.startExchange (p : Phase) (s : State) : State :=
  { s with
    mask := 0#16, devstat := 0#8, known := false, maskValid := false, ackValid := false,
    attempts := 0#8, retries := 0#8, txlen := 0#8, rxcnt := 0#8, rx := Buf.zero, tx := Buf.zero,
    phase := p, busy := true, fsm := .tx }

/-! ## Transmission (R137, R65, R197) -/

/-- `record_tx(frame)` (R137). -/
def State.recordTx (frame : List Byte) (s : State) : State :=
  { s with txlen := BitVec.ofNat 8 frame.length, tx := Buf.ofList frame }

/-- `SerialWrite(frame)`: one event of a whole frame (R65; log 15). -/
def State.serialWrite (frame : List Byte) (s : State) : State :=
  { s with trace := s.trace ++ [.write frame] }

/-- The end of the TX step (R197): a Send is complete, any other frame is followed by a read. -/
def State.afterWrite (s : State) : State :=
  if s.phase = .snd then s.complete .ok else { s with attempts := 0#8, fsm := .read }

/-- The TX step on a frame (R197). -/
def State.transmit (frame : List Byte) (s : State) : State :=
  ((s.recordTx frame).serialWrite frame).afterWrite

/-! ## One read attempt (R66, R151) -/

/-- The channel's next answer: the next of the list, and past its end a free one (log 3). -/
def State.nextAnswer (s : State) : Answer :=
  match s.channel with
  | a :: _ => a
  | [] => Config.channelDraw s.draws

/-- The state once that answer is taken. -/
def State.takeAnswer (s : State) : State :=
  match s.channel with
  | _ :: rest => { s with channel := rest }
  | [] => { s with draws := s.draws + 1 }

/-- All the bytes of an answer; an error gives none (R66, D18). -/
def Answer.bytesGiven : Answer → List Byte
  | .error => []
  | .bytes bs => bs

/-- The bytes a read attempt returns: at most seven (R66). -/
def State.readBytes (s : State) : List Byte := (Answer.bytesGiven s.nextAnswer).take respLen

/-- The bytes of that answer past the seventh stay in the channel (R43; DESIGN CHOICE, safe, log 4). -/
def State.consumeRead (s : State) : State :=
  match (Answer.bytesGiven s.nextAnswer).drop respLen with
  | [] => s.takeAnswer
  | b :: bs => { s.takeAnswer with channel := .bytes (b :: bs) :: s.takeAnswer.channel }

/-- The registers of one read attempt that returned these bytes (R151), with its events (R66, R156). -/
def State.latchResponse (bs : List Byte) (s : State) : State :=
  { s with
    attempts := s.attempts + 1#8, rx := Buf.ofList bs, rxcnt := BitVec.ofNat 8 bs.length,
    trace := s.trace ++ [.read bs],
    diag := if reqVerbose s.req then s.diag ++ [⟨Buf.ofList bs, bs.length⟩] else s.diag }

/-! ## Reset (R260 to R262) -/

/-- The reset input: every register and the hidden state at the reset value; the parameters, the channel, the
schedule and what was already seen on the ports stay (R262; log 16). -/
def State.applyReset (s : State) : State :=
  { State.reset with
    params := s.params, agenda := s.agenda, channel := s.channel, draws := s.draws, trace := s.trace,
    diag := s.diag, hostReads := s.hostReads }

end Sys2Proof.Machine
end

