-- ==== Sys2Proof/Machine/ChecksumRequests.lean ====
section
/-! DEFINITION. The streaming checksum requests `CKSCLR` and `CKSADD` (R114 to R116, R194). -/

namespace Sys2Proof.Machine

/-- `CKSCLR` (R115). -/
def execCksclr (f : ReqFields) (s : State) : Host.Outcome State Fault Refusal :=
  .next (s.accept (encodeRequest opCksclr f) fun a => State.immediate .ok { a with cksAcc := 0#8 })

/-- `CKSADD` (R116): the addition wraps modulo 256. -/
def execCksadd (f : ReqFields) (s : State) : Host.Outcome State Fault Refusal :=
  .next (s.accept (encodeRequest opCksadd f) fun a => State.immediate .ok { a with cksAcc := a.cksAcc + f.arg })

end Sys2Proof.Machine
end

