-- ==== Sys2Proof/Machine/ExchangeRequests.lean ====
section
/-! DEFINITION. The exchange requests `CHECK`, `SEND` and `INFO` (R192 to R198, R201, R202): what the write of their
word does. The rest of the exchange is the engine's steps. -/

namespace Sys2Proof.Machine

/-- `CHECK` (R201): ignores `ARG` and `ACTION` (R85). -/
def execCheck (f : ReqFields) (s : State) : Host.Outcome State Fault Refusal :=
  .next (s.accept (encodeRequest opCheck f) fun a => a.startExchange .chk)

/-- `SEND` (R198): the channel is checked before the action (R193, R236). -/
def execSend (f : ReqFields) (s : State) : Host.Outcome State Fault Refusal :=
  .next (s.accept (encodeRequest opSend f) fun a =>
    if !validChannel f.arg then a.immediate .badChannel
    else if f.action.toNat > 4 then a.immediate .badAction
    else a.startExchange .snd)

/-- `INFO` (R202): ignores `ACTION` (R85); begins with a Check frame (R195). -/
def execInfo (f : ReqFields) (s : State) : Host.Outcome State Fault Refusal :=
  .next (s.accept (encodeRequest opInfo f) fun a =>
    if !validChannel f.arg then a.immediate .badChannel
    else a.startExchange .chk)

end Sys2Proof.Machine
end

