-- ==== Sys2Proof/Machine/Frames.lean ====
section
/-! DEFINITION. The outbound frames: which frame the Frame Builder gives the TX step, and the TX step on each
frame (R133 to R137, R197). -/

namespace Sys2Proof.Machine

/-- The frame of a phase for a request word (R197): channel and action come from `REQ` (R40). -/
def frameFor (p : Phase) (w : Word) : Except Refusal (List Byte) :=
  match p with
  | .chk => .ok buildCheck
  | .snd =>
    match keyOfField (reqAction w) with
    | none => .error .actionPrecondition
    | some key =>
      match buildSend (reqArg w).toNat key with
      | none => .error .channelPrecondition
      | some frame => .ok frame
  | .inf =>
    match buildInfo (reqArg w).toNat with
    | none => .error .channelPrecondition
    | some frame => .ok frame

/-- The TX step on a frame of a phase: enabled when the engine is in `TX` on that phase (R191, R197). -/
def txStepOn (p : Phase) (frame : List Byte) (s : State) : Host.Outcome State Fault Refusal :=
  if s.fsm = .tx ∧ s.phase = p then .next (s.transmit frame) else .fault .stepNotEnabled

/-- A Check frame (R133, R197). -/
def execFrameCheck (cs : Byte) (s : State) : Host.Outcome State Fault Refusal :=
  txStepOn .chk [startMarker, lenCheck, cmdCheck, cs] s

/-- A Send frame (R134, R197, R198): complete as soon as it is written. -/
def execFrameSend (hi lo key cs : Byte) (s : State) : Host.Outcome State Fault Refusal :=
  txStepOn .snd [startMarker, lenSend, cmdSend, hi, lo, key, cs] s

/-- An Info frame (R135, R197). -/
def execFrameInfo (hi lo cs : Byte) (s : State) : Host.Outcome State Fault Refusal :=
  txStepOn .inf [startMarker, lenInfo, cmdInfo, hi, lo, cs] s

end Sys2Proof.Machine
end

