-- ==== Sys2Proof/Machine/ReservedRequests.lean ====
section
/-! DEFINITION. The reserved `OP` values (R81, R193, R95): they complete at once with `ERR_BAD_OP`. -/

namespace Sys2Proof.Machine

/-- `OP` = 000. -/
def execReservedOp000 (f : ReqFields) (s : State) : Host.Outcome State Fault Refusal :=
  .next (s.accept (encodeRequest 0b000#3 f) fun a => a.immediate .badOp)

/-- `OP` = 110. -/
def execReservedOp110 (f : ReqFields) (s : State) : Host.Outcome State Fault Refusal :=
  .next (s.accept (encodeRequest 0b110#3 f) fun a => a.immediate .badOp)

/-- `OP` = 111. -/
def execReservedOp111 (f : ReqFields) (s : State) : Host.Outcome State Fault Refusal :=
  .next (s.accept (encodeRequest 0b111#3 f) fun a => a.immediate .badOp)

end Sys2Proof.Machine
end

