-- ==== Sys2Proof/Machine/Responses.lean ====
section
/-! DEFINITION. The accepted responses: the DECIDE step on each class of response buffer (R200 to R205). -/

namespace Sys2Proof.Machine

/-- A Confirm in phase `CHK` of a `CHECK` (R201). -/
def State.confirmCheck (m : Word) (s : State) : State := (s.setMask m).complete .ok

/-- A Confirm in phase `CHK` of an `INFO` on channel `c` (R202). -/
def State.confirmInfoCheck (m : Word) (c : Nat) (s : State) : State :=
  if isLearned m c then { s.setMask m with phase := .inf, fsm := .tx }
  else (s.setMask m).complete .channelNotLearned

/-- A Confirm in phase `INF` of an `INFO` on channel `c` (R204): not learned is tested before retries exhausted (R236). -/
def State.confirmInfoInfo (m : Word) (c : Nat) (s : State) : State :=
  if !isLearned m c then (s.setMask m).complete .channelNotLearned
  else if s.retries = s.params.infoRetryMax then (s.setMask m).complete .infoRetryExhausted
  else { s.setMask m with retries := s.retries + 1#8, fsm := .tx }

/-- An operation on the channel of `REQ.ARG`, whose operand is defined on 1..16 only (R174; log 12). -/
def withChannel (s : State) (k : Nat → State) : Host.Outcome State Fault Refusal :=
  if validChannel (reqArg s.req) then .next (k (reqArg s.req).toNat) else .refused .channelPrecondition

/-- The DECIDE step on a Confirm with mask `m`: the rows 4B of R200. -/
def decideConfirm (m : Word) (s : State) : Host.Outcome State Fault Refusal :=
  match s.phase with
  | .chk =>
    if reqOp s.req = opCheck then .next (s.confirmCheck m)
    else if reqOp s.req = opInfo then withChannel s fun c => s.confirmInfoCheck m c
    else .fault .noDecideRule
  | .inf =>
    if reqOp s.req = opInfo then withChannel s fun c => s.confirmInfoInfo m c
    else .fault .noDecideRule
  | .snd => .fault .noDecideRule

/-- The DECIDE step on a response that is no Confirm: `onInfo` is its effect in phase `INF` (R203, R205); in phase
`CHK` it is an invalid response (R201, R202, R207). -/
def decideOther (onInfo : State → State) (s : State) : Host.Outcome State Fault Refusal :=
  match s.phase with
  | .chk => .next (s.complete .invalidResponse)
  | .inf => if reqOp s.req = opInfo then .next (onInfo s) else .fault .noDecideRule
  | .snd => .fault .noDecideRule

/-- The DECIDE step is enabled when the engine is in `DECIDE` (R191, R200). -/
def inDecide (s : State) (k : State → Host.Outcome State Fault Refusal) : Host.Outcome State Fault Refusal :=
  if s.fsm = .decide then k s else .fault .stepNotEnabled

/-- Confirm (R172, R201, R202, R204): offsets 3 and 4 carry the mask; offsets 1, 5, 6 are not read. -/
def execRespConfirm (_len mh ml _b5 _b6 : Byte) (s : State) : Host.Outcome State Fault Refusal :=
  inDecide s (decideConfirm (extractChannelMask mh ml))

/-- Ack (R173, R203): offset 5 carries the device status; offsets 1, 3, 4, 6 are not read. -/
def execRespAck (_len _b3 _b4 st _b6 : Byte) (s : State) : Host.Outcome State Fault Refusal :=
  inDecide s (decideOther fun s => (s.setAck (extractAckStatus st)).complete .ok)

/-- Any other command code (R94, R201, R205): an invalid response. -/
def execRespOther (_len _code _b3 _b4 _b5 _b6 : Byte) (s : State) : Host.Outcome State Fault Refusal :=
  inDecide s (decideOther fun s => s.complete .invalidResponse)

end Sys2Proof.Machine
end

