-- ==== Sys2Proof/Machine/Dispatch.lean ====
section
/-! DEFINITION. The dispatch: one arm per instruction. -/

namespace Sys2Proof.Machine

/-- The meaning of an instruction. -/
def exec (i : Instr) (s : State) : Host.Outcome State Fault Refusal :=
  match i with
  | .check f => Sys2Proof.Machine.execCheck f s
  | .send f => Sys2Proof.Machine.execSend f s
  | .info f => Sys2Proof.Machine.execInfo f s
  | .cksclr f => Sys2Proof.Machine.execCksclr f s
  | .cksadd f => Sys2Proof.Machine.execCksadd f s
  | .reservedOp000 f => Sys2Proof.Machine.execReservedOp000 f s
  | .reservedOp110 f => Sys2Proof.Machine.execReservedOp110 f s
  | .reservedOp111 f => Sys2Proof.Machine.execReservedOp111 f s
  | .frameCheck cs => Sys2Proof.Machine.execFrameCheck cs s
  | .frameSend hi lo key cs => Sys2Proof.Machine.execFrameSend hi lo key cs s
  | .frameInfo hi lo cs => Sys2Proof.Machine.execFrameInfo hi lo cs s
  | .respConfirm len mh ml b5 b6 => Sys2Proof.Machine.execRespConfirm len mh ml b5 b6 s
  | .respAck len b3 b4 st b6 => Sys2Proof.Machine.execRespAck len b3 b4 st b6 s
  | .respOther len code b3 b4 b5 b6 => Sys2Proof.Machine.execRespOther len code b3 b4 b5 b6 s

end Sys2Proof.Machine
end

