-- ==== Sys2Proof/Machine/Reader.lean ====
section
/-! DEFINITION. The Response Reader: the READ and SLEEP steps (R150 to R156). -/

namespace Sys2Proof.Machine

/-- What a read attempt that returned `n` bytes leads to (R151): accepted, timed out, or another attempt. -/
def State.afterRead (n : Nat) (s : State) : State :=
  if markerOk n s.rx then { s with fsm := .decide }
  else if s.attempts = s.params.maxAttempts then s.complete .timeout
  else { s with fsm := .sleep }

/-- The READ step (R151). -/
def State.readStep (s : State) : State :=
  (s.consumeRead.latchResponse s.readBytes).afterRead s.readBytes.length

/-- The SLEEP step (R154): no duration in an untimed model (R270; log 14). -/
def State.sleepStep (s : State) : State := { s with fsm := .read }

end Sys2Proof.Machine
end

