-- ==== Sys2Proof/Machine/Fetch.lean ====
section
/-! DEFINITION. Whose turn it is, what that turn fetches, and the effect of a turn that runs no instruction
(R61 to R63, R99, R191). -/

namespace Sys2Proof.Machine

/-- What a turn fetches. -/
inductive Fetched where
  /-- an instruction's word or bytes -/
  | code (c : Code)
  /-- no instruction: the turn's effect is `quiet` -/
  | nothing
  /-- the Frame Builder has no frame -/
  | stop (r : Refusal)
  deriving DecidableEq, Repr

/-- A turn with its host address resolved: inside the register block it is the access of that register's index;
outside it stays as it is, no access of the EPE (R71; log 21). -/
def Turn.resolve (p : Params) : Turn → Turn
  | .hostLoad addr =>
    match p.registerAt addr with
    | some i => .hostRead i
    | none => .hostLoad addr
  | .hostStore addr v =>
    match p.registerAt addr with
    | some i => .hostWrite i v
    | none => .hostStore addr v
  | .engine => .engine
  | .hostRead i => .hostRead i
  | .hostWrite i v => .hostWrite i v
  | .hostWait => .hostWait
  | .reset => .reset

/-- The turn of R63 that comes next; past the agenda's end it is the engine's (log 1). -/
def State.turn (s : State) : Turn :=
  match s.agenda with
  | [] => .engine
  | t :: _ => t.resolve s.params

/-- The frame of the TX step: the Frame Builder's (R197), unless one was staged from outside (log 8). -/
def State.txFrame (s : State) : Except Refusal (List Byte) :=
  match s.staged with
  | some frame => .ok frame
  | none => frameFor s.phase s.req

/-- What the next turn fetches: a word written to `REQ` (R62, R192), in `TX` the frame to be sent (R197), in
`DECIDE` the accepted buffer (R200). -/
def fetch (s : State) : Fetched :=
  match s.turn with
  | .engine =>
    match s.fsm with
    | .idle => .nothing
    | .tx =>
      match s.txFrame with
      | .ok frame => .code (.wireOut frame)
      | .error r => .stop r
    | .read => .nothing
    | .sleep => .nothing
    | .decide => .code (.wireIn s.rx.toList)
  | .hostRead _ => .nothing
  | .hostWrite i v => if i = 0#5 then .code (.request v) else .nothing
  | .hostLoad _ => .nothing
  | .hostStore _ _ => .nothing
  | .hostWait => .nothing
  | .reset => .nothing

/-- The state a fetched instruction runs in: its turn is used up. -/
def advance (s : State) : State := { s with agenda := s.agenda.tail, staged := none }

/-- The engine's turn where it fetches nothing: in `IDLE` it has no step (R191; log 2). -/
def engineQuiet (s : State) : State :=
  match s.fsm with
  | .idle => s
  | .tx => s
  | .read => s.readStep
  | .sleep => s.sleepStep
  | .decide => s

/-- The effect of a turn that fetches nothing. -/
def quiet (s : State) : State :=
  match s.turn with
  | .engine => engineQuiet { s with agenda := s.agenda.tail }
  | .hostRead i => State.recordRead i { s with agenda := s.agenda.tail }
  | .hostWrite _ _ => { s with agenda := s.agenda.tail }
  | .hostLoad _ => { s with agenda := s.agenda.tail }
  | .hostStore _ _ => { s with agenda := s.agenda.tail }
  | .hostWait =>
    State.recordRead statusIndex { s with agenda := if s.busy then .engine :: s.agenda else s.agenda.tail }
  | .reset => State.applyReset { s with agenda := s.agenda.tail }

/-- A request word for which a response of this command code has a rule of R200: `CHECK`, and for an Ack `INFO 1`. -/
def requestExpecting (code : Byte) : Word := if code = cmdAck then 0x0103#16 else 0x0001#16

/-- The phase a response of this command code belongs to. -/
def phaseExpecting (code : Byte) : Phase := if code = cmdAck then .inf else .chk

/-- The phase an outbound frame of this command code belongs to (R190). -/
def phaseOfFrame (code : Byte) : Phase :=
  if code = cmdSend then .snd else if code = cmdInfo then .inf else .chk

/-- The state whose very next turn runs this code (log 8, 18). -/
def State.withCode (s : State) : Code → State
  | .request w => { s with agenda := .hostWrite 0#5 w :: s.agenda }
  | .wireOut frame =>
    { s with
      agenda := .engine :: s.agenda, busy := true, fsm := .tx, phase := phaseOfFrame (frame.getD 2 0#8),
      staged := some frame }
  | .wireIn buf =>
    { s with
      agenda := .engine :: s.agenda, busy := true, fsm := .decide, rx := Buf.ofList buf,
      req := requestExpecting (buf.getD 2 0#8), phase := phaseExpecting (buf.getD 2 0#8) }

end Sys2Proof.Machine
end

