-- ==== Sys2Proof/Machine/Step.lean ====
section
/-! DEFINITION. One step of the machine: one turn of the total order of R63. -/

namespace Sys2Proof.Machine

/-- One turn: the instruction it fetches, decoded and run, or its quiet effect. -/
def step (s : State) : Host.Outcome State Fault Refusal :=
  match fetch s with
  | .code c =>
    match decode c with
    | .ok i => exec i (advance s)
    | .error e => .refused (.undecodable e)
  | .nothing => .next (quiet s)
  | .stop r => .refused r

/-- `s` with a table word stored where `step` fetches its next instruction (log 18). -/
def State.withFetchWord (s : State) (nbits w : Nat) : State :=
  match tableCode nbits w with
  | none => s
  | some c => s.withCode c

end Sys2Proof.Machine
end

