-- ==== Sys2Proof/Machine/Assembler.lean ====
section
/-! DEFINITION. The assembler syntax of host programs (R98) and its pseudo-instructions (R99), as turns of the host. -/

namespace Sys2Proof.Machine

/-- A request line (R98). -/
inductive AsmRequest where
  /-- `check [, v]` -/
  | check (v : Bool)
  /-- `send <ch>, <action> [, v]` -/
  | send (ch : Nat) (a : Action) (v : Bool)
  /-- `info <ch> [, v]` -/
  | info (ch : Nat) (v : Bool)
  /-- `cksclr` -/
  | cksclr
  /-- `cksadd <byte>` -/
  | cksadd (b : Byte)
  /-- `.word <hex>` -/
  | word (w : Word)
  deriving DecidableEq, Repr

/-- A line of a host program (R98, R99). -/
inductive AsmLine where
  /-- a request word written to `REQ` -/
  | request (r : AsmRequest)
  /-- `rd <NAME>` -/
  | rd (i : RegIndex)
  /-- `wr <NAME>, <hex>` -/
  | wr (i : RegIndex) (v : Word)
  /-- `wait` -/
  | wait
  /-- `cks <b0>, <b1>, ..., <bk>` -/
  | cks (bs : List Byte)
  /-- `do <req>` -/
  | doRequest (r : AsmRequest)
  deriving DecidableEq, Repr

/-- The word of a request line; the assembler refuses a channel outside 1..16 (R98). -/
def AsmRequest.toWord : AsmRequest → Option Word
  | .check v => some (encodeRequest opCheck ⟨0#8, v, 0#3, false⟩)
  | .send ch a v =>
    if 1 ≤ ch ∧ ch ≤ 16 then some (encodeRequest opSend ⟨BitVec.ofNat 8 ch, v, a.field, false⟩) else none
  | .info ch v =>
    if 1 ≤ ch ∧ ch ≤ 16 then some (encodeRequest opInfo ⟨BitVec.ofNat 8 ch, v, 0#3, false⟩) else none
  | .cksclr => some (encodeRequest opCksclr ⟨0#8, false, 0#3, false⟩)
  | .cksadd b => some (encodeRequest opCksadd ⟨b, false, 0#3, false⟩)
  | .word w => some w

/-- The write of a request line. -/
def AsmRequest.turns (r : AsmRequest) : Option (List Turn) := r.toWord.map fun w => [.hostWrite 0#5 w]

/-- The writes of `cksclr; cksadd b0; …; cksadd bk` and the read of `CKS` (R99). -/
def cksTurns (bs : List Byte) : List Turn :=
  .hostWrite 0#5 (encodeRequest opCksclr ⟨0#8, false, 0#3, false⟩)
    :: bs.map (fun b => .hostWrite 0#5 (encodeRequest opCksadd ⟨b, false, 0#3, false⟩))
    ++ [.hostRead cksIndex]

/-- The host's turns of a line (R98, R99). -/
def AsmLine.turns : AsmLine → Option (List Turn)
  | .request r => r.turns
  | .rd i => some [.hostRead i]
  | .wr i v => some [.hostWrite i v]
  | .wait => some [.hostWait]
  | .cks bs => some (cksTurns bs)
  | .doRequest r => r.turns.map fun ts => .hostWait :: ts ++ [.hostWait, .hostRead statusIndex]

/-- The host's turns of a program; `none` where the assembler refuses a line. -/
def assemble : List AsmLine → Option (List Turn)
  | [] => some []
  | l :: ls =>
    match l.turns, assemble ls with
    | some ts, some rest => some (ts ++ rest)
    | _, _ => none

end Sys2Proof.Machine
end

