-- ==== Sys2Proof/Safety.lean ====
section
/-! DEFINITION. What claims are stated in: the invariant of the states that runs reach, the bounds on an exchange,
the shape of its serial events. -/

namespace Sys2Proof.Machine

/-! ## The invariant -/

/-- `BUSY` = 1 exactly when `st.fsm` is not `IDLE` (R40). -/
abbrev State.BusyIffRunning (s : State) : Prop := s.busy = true ↔ s.fsm ≠ .idle

/-- While an exchange runs, `DONE` = 0: it was cleared at acceptance (R23, R192). -/
abbrev State.NotDoneWhileRunning (s : State) : Prop := s.fsm ≠ .idle → s.done = false

/-- The request words whose exchange passes through a phase (R193, R195, R202). -/
def requestFits (p : Phase) (w : Word) : Bool :=
  match p with
  | .chk => reqOp w == opCheck || (reqOp w == opInfo && validChannel (reqArg w))
  | .snd => reqOp w == opSend && validChannel (reqArg w) && (reqAction w).toNat ≤ 4
  | .inf => reqOp w == opInfo && validChannel (reqArg w)

/-- While an exchange runs, `REQ` is a validated word of it, and a Send is never read after (R193, R198). -/
abbrev State.RequestInProgress (s : State) : Prop :=
  s.fsm ≠ .idle → requestFits s.phase s.req = true ∧ (s.phase = .snd → s.fsm = .tx)

/-- The counters stay within their bounds (R28, R42). -/
abbrev State.CountersBounded (s : State) : Prop :=
  s.attempts.toNat ≤ s.params.maxAttempts.toNat ∧ s.retries.toNat ≤ s.params.infoRetryMax.toNat ∧
  (s.fsm = .read ∨ s.fsm = .sleep → s.attempts.toNat < s.params.maxAttempts.toNat) ∧
  (s.fsm ≠ .idle ∧ s.phase = .chk → s.retries = 0#8)

/-- Bytes `n` and up are zero. -/
def Buf.zeroFrom (n : Nat) (b : Buf) : Bool := (b.toList.drop n).all fun x => x == 0#8

/-- `RXCNT` counts 0..7 bytes, and `RX0`..`RX6` are zero past them (R30, R31). -/
abbrev State.ReceivedZeroFilled (s : State) : Prop :=
  s.rxcnt.toNat ≤ 7 ∧ Buf.zeroFrom s.rxcnt.toNat s.rx = true

/-- `TXLEN` is 0, 4, 6 or 7, `TX0`..`TX6` are zero past it (R29, R32), and they sum to 0 modulo 256 (R111). -/
abbrev State.SentFrameRecorded (s : State) : Prop :=
  (s.txlen = 0#8 ∨ s.txlen = 4#8 ∨ s.txlen = 6#8 ∨ s.txlen = 7#8) ∧
  Buf.zeroFrom s.txlen.toNat s.tx = true ∧ byteSum s.tx.toList % 256 = 0

/-- The `TX` registers show this frame (R137). -/
def State.showsFrame (s : State) (frame : List Byte) : Bool :=
  s.txlen == BitVec.ofNat 8 frame.length && s.tx == Buf.ofList frame

/-- While a response is awaited or examined, the `TX` registers show the frame of the phase (R197, R207). -/
abbrev State.SentFrameOfPhase (s : State) : Prop :=
  (s.fsm = .read ∨ s.fsm = .sleep ∨ s.fsm = .decide) → (frameFor s.phase s.req).toOption.any s.showsFrame = true

/-- In `DECIDE` the buffer was accepted by the start-marker detector (R152, R153). -/
abbrev State.AcceptedInDecide (s : State) : Prop :=
  s.fsm = .decide → markerOk s.rxcnt.toNat s.rx = true ∧ 1 ≤ s.attempts.toNat

/-- A value is extracted when its valid bit says so, and zero otherwise (R23, R26, R195). -/
abbrev State.ValidBitsTrue (s : State) : Prop :=
  (s.maskValid = false → s.mask = 0#16) ∧ (s.ackValid = false → s.devstat = 0#8 ∧ s.known = false) ∧
  (s.ackValid = true → s.known = knownStatus s.devstat)

/-- In phase `INF` of an exchange, the last mask extracted has the channel's bit (R202, R204, R206). -/
abbrev State.LearnedInInfo (s : State) : Prop :=
  s.fsm ≠ .idle ∧ s.phase = .inf → s.maskValid = true ∧ isLearned s.mask (reqArg s.req).toNat = true

/-- The invariant: what holds at reset and after every step. -/
abbrev State.Inv (s : State) : Prop :=
  s.params.Legal ∧ s.staged = none ∧ s.BusyIffRunning ∧ s.NotDoneWhileRunning ∧ s.RequestInProgress ∧
  s.CountersBounded ∧ s.ReceivedZeroFilled ∧ s.SentFrameRecorded ∧ s.SentFrameOfPhase ∧ s.AcceptedInDecide ∧
  s.ValidBitsTrue ∧ s.LearnedInInfo

/-! ## Runs -/

/-- `n` steps, stopping at the first stop. With an empty agenda all of them are the engine's (R191). -/
def run : Nat → State → Host.Outcome State Fault Refusal
  | 0, s => .next s
  | n + 1, s =>
    match step s with
    | .next t => run n t
    | .fault f => .fault f
    | .refused r => .refused r

/-- The bound on the engine steps of a request (R209). -/
def exchangeBound (p : Params) (w : Word) : Nat :=
  if reqOp w = opSend then 1
  else if reqOp w = opCheck then 2 * p.maxAttempts.toNat + 1
  else (p.infoRetryMax.toNat + 2) * (2 * p.maxAttempts.toNat + 1)

/-! ## The serial events of an exchange (R210) -/

/-- A run of read attempts after a frame, 1 to `m` in all of which `k` came before, then possibly more Info frames
with their own reads, at most `j` of them. -/
def readsThenFrames (m : Nat) (frame : List Byte) : Nat → Nat → List SerialEvent → Bool
  | _, k, [] => 1 ≤ k && k ≤ m
  | j, k, .read _ :: rest => readsThenFrames m frame j (k + 1) rest
  | 0, _, .write _ :: _ => false
  | j + 1, k, .write f :: rest => 1 ≤ k && k ≤ m && f == frame && readsThenFrames m frame j 0 rest

/-- The serial events of the exchange of a request word (R210). -/
def exchangeEvents (p : Params) (w : Word) (events : List SerialEvent) : Bool :=
  match events with
  | .write f :: rest =>
    if reqOp w = opSend then
      rest == [] && (frameFor .snd w).toOption == some f
    else if reqOp w = opCheck then
      f == buildCheck && readsThenFrames p.maxAttempts.toNat [] 0 0 rest
    else
      f == buildCheck &&
        match (frameFor .inf w).toOption with
        | some frame => readsThenFrames p.maxAttempts.toNat frame (p.infoRetryMax.toNat + 1) 0 rest
        | none => false
  | _ => false

end Sys2Proof.Machine
end

