-- ==== Sys2Proof/Certificates/Slice0/Obligations.lean ====
section
/-! DEFINITION. The statements for the provers. Each docstring names the rule of the spec it formalises, and says so
where a clause is the model's own choice. A next state written `{ s with … }` is the frame as well: every field not
named is unchanged. -/

open Sys2Proof Sys2Proof.Machine

/-! ## Encoding -/

/-- Words and frames of spec/95 (V12, V19, V21, V24) and R98 decode to the instructions they stand for; the same bytes
`AA 02 4A …` are a Check frame going out and an unexpected response coming in (log 9). -/
def Obligations.SampleWordsDecode : Prop :=
  decode (.request 0x0081#16) = .ok (.check ⟨0x00#8, true, 0#3, false⟩) ∧
  decode (.request 0x0009#16) = .ok (.check ⟨0x00#8, false, 0#3, true⟩) ∧
  decode (.request 0x0C12#16) = .ok (.send ⟨0x0C#8, false, 1#3, false⟩) ∧
  decode (.request 0x1083#16) = .ok (.info ⟨0x10#8, true, 0#3, false⟩) ∧
  decode (.request 0x0004#16) = .ok (.cksclr ⟨0x00#8, false, 0#3, false⟩) ∧
  decode (.request 0xAA05#16) = .ok (.cksadd ⟨0xAA#8, false, 0#3, false⟩) ∧
  decode (.request 0x0006#16) = .ok (.reservedOp110 ⟨0x00#8, false, 0#3, false⟩) ∧
  decode (.wireOut [0xAA#8, 0x02#8, 0x4A#8, 0x0A#8]) = .ok (.frameCheck 0x0A#8) ∧
  decode (.wireOut [0xAA#8, 0x05#8, 0x4C#8, 0x08#8, 0x00#8, 0x40#8, 0xBD#8])
    = .ok (.frameSend 0x08#8 0x00#8 0x40#8 0xBD#8) ∧
  decode (.wireOut [0xAA#8, 0x04#8, 0x4E#8, 0x00#8, 0x01#8, 0x03#8]) = .ok (.frameInfo 0x00#8 0x01#8 0x03#8) ∧
  decode (.wireIn [0xAA#8, 0x05#8, 0x4B#8, 0x00#8, 0x01#8, 0x00#8, 0x00#8])
    = .ok (.respConfirm 0x05#8 0x00#8 0x01#8 0x00#8 0x00#8) ∧
  decode (.wireIn [0xAA#8, 0x05#8, 0x4D#8, 0x00#8, 0x01#8, 0x0A#8, 0x00#8])
    = .ok (.respAck 0x05#8 0x00#8 0x01#8 0x0A#8 0x00#8) ∧
  decode (.wireIn [0xAA#8, 0x02#8, 0x4A#8, 0x00#8, 0x00#8, 0x00#8, 0x00#8])
    = .ok (.respOther 0x02#8 0x4A#8 0x00#8 0x00#8 0x00#8 0x00#8) ∧
  decode (.wireIn [0x00#8, 0xAA#8, 0x05#8, 0x4B#8, 0x00#8, 0x01#8, 0x00#8]) = .error .noStartMarker

/-- Decoding the encoding of a well-formed instruction gives it back: no bit of an encoding is dropped. -/
def Obligations.DecodeInvertsEncode : Prop := ∀ i : Instr, i.wellFormed = true → decode (encode i) = .ok i

/-- What decodes has one meaning: encoding the decoded instruction gives the code back. -/
def Obligations.EncodeInvertsDecode : Prop := ∀ (c : Code) (i : Instr), decode c = .ok i → encode i = c

/-- The fields of a request word stand where R80 puts them, and `OP` alone selects the row of R81. -/
def Obligations.RequestWordFields : Prop :=
  ∀ w : Word,
    let f : ReqFields := ⟨w.extractLsb' 8 8, w.getLsbD 7, w.extractLsb' 4 3, w.getLsbD 3⟩
    (w.extractLsb' 0 3 = 0b000#3 → decode (.request w) = .ok (.reservedOp000 f)) ∧
    (w.extractLsb' 0 3 = 0b001#3 → decode (.request w) = .ok (.check f)) ∧
    (w.extractLsb' 0 3 = 0b010#3 → decode (.request w) = .ok (.send f)) ∧
    (w.extractLsb' 0 3 = 0b011#3 → decode (.request w) = .ok (.info f)) ∧
    (w.extractLsb' 0 3 = 0b100#3 → decode (.request w) = .ok (.cksclr f)) ∧
    (w.extractLsb' 0 3 = 0b101#3 → decode (.request w) = .ok (.cksadd f)) ∧
    (w.extractLsb' 0 3 = 0b110#3 → decode (.request w) = .ok (.reservedOp110 f)) ∧
    (w.extractLsb' 0 3 = 0b111#3 → decode (.request w) = .ok (.reservedOp111 f))

/-- Every frame the Frame Builder gives the TX step is a well-formed outbound instruction (R96: no other command code
is ever transmitted). -/
def Obligations.BuilderFramesAreWellFormed : Prop :=
  ∀ (p : Phase) (w : Word) (frame : List Byte), frameFor p w = .ok frame →
    ∃ i, decode (.wireOut frame) = .ok i ∧ i.wellFormed = true ∧ encode i = .wireOut frame

/-- The words of the assembler lines (R98): `0x1 | V<<7`, `ch<<8 | V<<7 | A<<4 | 0x2`, `ch<<8 | V<<7 | 0x3`, `0x4`,
`byte<<8 | 0x5`; a channel outside 1..16 is refused. -/
def Obligations.AssembledWords : Prop :=
  (∀ v : Bool, (AsmRequest.check v).toWord.map BitVec.toNat = some (0x1 + v.toNat * 128)) ∧
  (∀ (ch : Nat) (a : Action) (v : Bool), 1 ≤ ch → ch ≤ 16 →
    (AsmRequest.send ch a v).toWord.map BitVec.toNat = some (ch * 256 + v.toNat * 128 + a.field.toNat * 16 + 0x2)) ∧
  (∀ (ch : Nat) (v : Bool), 1 ≤ ch → ch ≤ 16 →
    (AsmRequest.info ch v).toWord.map BitVec.toNat = some (ch * 256 + v.toNat * 128 + 0x3)) ∧
  AsmRequest.cksclr.toWord = some 0x0004#16 ∧
  (∀ b : Byte, (AsmRequest.cksadd b).toWord.map BitVec.toNat = some (b.toNat * 256 + 0x5)) ∧
  (∀ (ch : Nat) (a : Action) (v : Bool), ch = 0 ∨ 16 < ch →
    (AsmRequest.send ch a v).toWord = none ∧ (AsmRequest.info ch v).toWord = none)

/-! ## Steps run decoded instructions -/

/-- A step runs the decoded instruction: the word a host writes to `REQ`, in `TX` the frame of the Frame Builder, in
`DECIDE` the response buffer; around it the step only uses up the turn (log 1, 7). -/
def Obligations.StepRunsDecodedInstruction : Prop :=
  ∀ (s : State) (i : Instr), s.staged = none →
    (∀ w, s.turn = .hostWrite 0#5 w → decode (.request w) = .ok i →
      step s = exec i { s with agenda := s.agenda.tail }) ∧
    (∀ frame, s.turn = .engine → s.fsm = .tx → frameFor s.phase s.req = .ok frame →
      decode (.wireOut frame) = .ok i → step s = exec i { s with agenda := s.agenda.tail }) ∧
    (s.turn = .engine → s.fsm = .decide → decode (.wireIn s.rx.toList) = .ok i →
      step s = exec i { s with agenda := s.agenda.tail })

/-- A word stored where the step fetches is the one the very next step runs (log 18). -/
def Obligations.FetchWordIsRun : Prop :=
  ∀ (s : State) (nbits w : Nat) (i : Instr), decodeTableWord nbits w = some i →
    step (s.withFetchWord nbits w) = exec i (advance (s.withFetchWord nbits w))

/-! ## The checksum generator -/

/-- R111, the zero-sum law, for every byte sequence, and so for every frame of the Frame Builder. -/
def Obligations.ChecksumZeroSum : Prop :=
  (∀ m : List Byte, (byteSum m + (checksum m).toNat) % 256 = 0 ∧ byteSum (m ++ [checksum m]) % 256 = 0) ∧
  ∀ (p : Phase) (w : Word) (frame : List Byte), frameFor p w = .ok frame → byteSum frame % 256 = 0

/-- R112: the empty sequence and single bytes. -/
def Obligations.ChecksumOfShortSequences : Prop :=
  checksum [] = 0x00#8 ∧ (∀ b : Byte, (checksum [b]).toNat = (256 - b.toNat) % 256) ∧
  checksum [0x00#8] = 0x00#8 ∧ checksum [0x01#8] = 0xFF#8

/-- R110: the order of the bytes does not matter, and a whole checksummed frame has checksum 0. -/
def Obligations.ChecksumIgnoresOrder : Prop :=
  ∀ m m' : List Byte, m.Perm m' → checksum m = checksum m' ∧ checksum (withChecksum m) = 0x00#8

/-- R115: `CKSCLR` on an idle engine; every field not named is unchanged, `MASK_VALID` and `ACK_VALID` among them.
On a busy engine it is dropped. -/
def Obligations.CksclrClearsAccumulator : Prop :=
  ∀ (f : ReqFields) (s : State),
    (s.busy = false → exec (.cksclr f) s =
      .next { s with req := encodeRequest opCksclr f, rej := false, cksAcc := 0x00#8, result := .ok, done := true }) ∧
    (s.busy = true → exec (.cksclr f) s = .next { s with rej := true })

/-- R116: `CKSADD` on an idle engine adds its byte modulo 256; every field not named is unchanged. -/
def Obligations.CksaddAddsByte : Prop :=
  ∀ (f : ReqFields) (s : State), s.busy = false →
    ∃ acc : Byte, acc.toNat = (s.cksAcc.toNat + f.arg.toNat) % 256 ∧
      (f.arg = s.cksOut → acc = 0x00#8) ∧ (f.arg = 0x00#8 → acc = s.cksAcc) ∧
      exec (.cksadd f) s =
        .next { s with req := encodeRequest opCksadd f, rej := false, cksAcc := acc, result := .ok, done := true }

/-- R114 with the pseudo-instruction `cks` of R99: after `cksclr` and the bytes one by one, `CKS` reads the sum and the
checksum of the bytes; no serial event happens. -/
def Obligations.StreamingChecksum : Prop :=
  ∀ (bs : List Byte) (rest : List Turn) (s : State), s.busy = false → s.agenda = cksTurns bs ++ rest →
    ∃ t, run (bs.length + 2) s = .next t ∧ t.agenda = rest ∧ t.cksAcc.toNat = byteSum bs % 256 ∧
      t.cksOut = checksum bs ∧ t.hostReads = s.hostReads ++ [(cksIndex, wordOfBytes t.cksAcc (checksum bs))] ∧
      t.trace = s.trace ∧ t.busy = false

/-- R27, R114: only `CKSCLR` and `CKSADD` on an idle engine, and reset, change `CKS_ACC`; no step of an exchange does. -/
def Obligations.OnlyChecksumRequestsChangeCks : Prop :=
  ∀ s t : State, s.staged = none → step s = .next t → t.cksAcc ≠ s.cksAcc →
    s.turn = .reset ∨
    (s.busy = false ∧ ∃ w, s.turn = .hostWrite 0#5 w ∧ (reqOp w = opCksclr ∨ reqOp w = opCksadd))

/-! ## The frame builder -/

/-- R130: channels 1..8 set bit `channel-1` of the low byte, channels 9..16 bit `channel-9` of the high byte. -/
def Obligations.ChannelMaskBytes : Prop :=
  ∀ c : Nat, 1 ≤ c → c ≤ 16 →
    ∃ hi lo, chanToMask c = some (hi, lo) ∧
      (c ≤ 8 → hi = 0x00#8 ∧ lo.toNat = 2 ^ (c - 1)) ∧ (9 ≤ c → hi.toNat = 2 ^ (c - 9) ∧ lo = 0x00#8)

/-- R131: as a 16-bit value the mask is `1 << (c-1)`, and it makes exactly channel `c` learned. -/
def Obligations.ChannelMaskSelectsItsChannel : Prop :=
  ∀ (c d : Nat) (hi lo : Byte), 1 ≤ d → d ≤ 16 → chanToMask c = some (hi, lo) →
    (wordOfBytes hi lo).toNat = 2 ^ (c - 1) ∧ (isLearned (wordOfBytes hi lo) d = true ↔ d = c)

/-- R133 to R135: the bytes of the three frames on every channel, their checksums by the arithmetic of R134 and R135,
and the key code of each action (R83). -/
def Obligations.BuiltFrameBytes : Prop :=
  buildCheck = [0xAA#8, 0x02#8, 0x4A#8, 0x0A#8] ∧
  (∀ (c : Nat) (key : Byte), 1 ≤ c → c ≤ 16 →
    let hi : Byte := BitVec.ofNat 8 (if 9 ≤ c then 2 ^ (c - 9) else 0)
    let lo : Byte := BitVec.ofNat 8 (if c ≤ 8 then 2 ^ (c - 1) else 0)
    buildSend c key = some [0xAA#8, 0x05#8, 0x4C#8, hi, lo, key, 0x05#8 - hi - lo - key] ∧
    buildInfo c = some [0xAA#8, 0x04#8, 0x4E#8, hi, lo, 0x04#8 - hi - lo]) ∧
  keyOfField 0#3 = some 0x20#8 ∧ keyOfField 1#3 = some 0x40#8 ∧ keyOfField 2#3 = some 0x10#8 ∧
  keyOfField 3#3 = some 0x24#8 ∧ keyOfField 4#3 = some 0x44#8 ∧ ∀ a : BitVec 3, 4 < a.toNat → keyOfField a = none

/-- R86, R87, R111: every frame sent begins with the marker, its length byte counts the bytes after it, and all its
bytes sum to 0 modulo 256. -/
def Obligations.BuiltFramesAreFramed : Prop :=
  ∀ (p : Phase) (w : Word) (frame : List Byte), frameFor p w = .ok frame →
    frame.getD 0 0#8 = startMarker ∧ (frame.getD 1 0#8).toNat + 2 = frame.length ∧ byteSum frame % 256 = 0

/-! ## Accepting a request -/

/-- R196: a request word written while `BUSY` = 1 sets `REJ`; nothing else changes. -/
def Obligations.BusyRequestIsDropped : Prop :=
  ∀ (w : Word) (i : Instr) (s : State), s.busy = true → decode (.request w) = .ok i →
    exec i s = .next { s with rej := true }

/-- R192, R195: `CHECK` on an idle engine starts an exchange in phase `CHK`; `CKS_ACC` and `RESULT` are untouched. -/
def Obligations.CheckStartsExchange : Prop :=
  ∀ (f : ReqFields) (s : State), s.busy = false →
    exec (.check f) s =
      .next { s with
        req := encodeRequest opCheck f, busy := true, done := false, rej := false,
        mask := 0#16, devstat := 0#8, known := false, maskValid := false, ackValid := false,
        attempts := 0#8, retries := 0#8, txlen := 0#8, rxcnt := 0#8, rx := Buf.zero, tx := Buf.zero,
        phase := .chk, fsm := .tx }

/-- R193, R195, R198, R236: `SEND` on an idle engine: a bad channel, then a bad action, complete at once and change
no exchange register; else the exchange starts in phase `SND`. -/
def Obligations.SendIsValidatedAndStarted : Prop :=
  ∀ (f : ReqFields) (s : State), s.busy = false →
    (f.arg.toNat = 0 ∨ 16 < f.arg.toNat →
      exec (.send f) s =
        .next { s with req := encodeRequest opSend f, rej := false, result := .badChannel, done := true }) ∧
    (1 ≤ f.arg.toNat → f.arg.toNat ≤ 16 → 4 < f.action.toNat →
      exec (.send f) s =
        .next { s with req := encodeRequest opSend f, rej := false, result := .badAction, done := true }) ∧
    (1 ≤ f.arg.toNat → f.arg.toNat ≤ 16 → f.action.toNat ≤ 4 →
      exec (.send f) s =
        .next { s with
          req := encodeRequest opSend f, busy := true, done := false, rej := false,
          mask := 0#16, devstat := 0#8, known := false, maskValid := false, ackValid := false,
          attempts := 0#8, retries := 0#8, txlen := 0#8, rxcnt := 0#8, rx := Buf.zero, tx := Buf.zero,
          phase := .snd, fsm := .tx })

/-- R193, R195, R202: `INFO` on an idle engine: a bad channel completes at once; else the exchange starts with a Check
frame, in phase `CHK`. -/
def Obligations.InfoIsValidatedAndStarted : Prop :=
  ∀ (f : ReqFields) (s : State), s.busy = false →
    (f.arg.toNat = 0 ∨ 16 < f.arg.toNat →
      exec (.info f) s =
        .next { s with req := encodeRequest opInfo f, rej := false, result := .badChannel, done := true }) ∧
    (1 ≤ f.arg.toNat → f.arg.toNat ≤ 16 →
      exec (.info f) s =
        .next { s with
          req := encodeRequest opInfo f, busy := true, done := false, rej := false,
          mask := 0#16, devstat := 0#8, known := false, maskValid := false, ackValid := false,
          attempts := 0#8, retries := 0#8, txlen := 0#8, rxcnt := 0#8, rx := Buf.zero, tx := Buf.zero,
          phase := .chk, fsm := .tx })

/-- R193, R95: the three reserved `OP` values on an idle engine complete at once with `ERR_BAD_OP`. -/
def Obligations.ReservedOpsCompleteWithBadOp : Prop :=
  ∀ (f : ReqFields) (s : State), s.busy = false →
    exec (.reservedOp000 f) s =
      .next { s with req := encodeRequest 0b000#3 f, rej := false, result := .badOp, done := true } ∧
    exec (.reservedOp110 f) s =
      .next { s with req := encodeRequest 0b110#3 f, rej := false, result := .badOp, done := true } ∧
    exec (.reservedOp111 f) s =
      .next { s with req := encodeRequest 0b111#3 f, rej := false, result := .badOp, done := true }

/-- R20, R46, R195: the start of an exchange does not depend on the result registers an earlier request left. -/
def Obligations.StartIgnoresEarlierResults : Prop :=
  ∀ (f : ReqFields) (s : State) (m : Word) (mv av kn dn rj : Bool) (st a r n k : Byte) (rx tx : Buf),
    s.busy = false → 1 ≤ f.arg.toNat → f.arg.toNat ≤ 16 → f.action.toNat ≤ 4 →
    let s' : State := { s with
      mask := m, maskValid := mv, ackValid := av, known := kn, done := dn, rej := rj, devstat := st,
      attempts := a, retries := r, txlen := n, rxcnt := k, rx := rx, tx := tx }
    exec (.check f) s' = exec (.check f) s ∧ exec (.send f) s' = exec (.send f) s ∧
      exec (.info f) s' = exec (.info f) s

/-! ## Transmitting -/

/-- R197, R137, R65: a Check or an Info frame in `TX` of its phase is recorded and written whole, and a fresh
ReadResponse begins. -/
def Obligations.CheckAndInfoFramesAreSent : Prop :=
  ∀ (hi lo cs : Byte) (s : State), s.fsm = .tx →
    (s.phase = .chk →
      exec (.frameCheck cs) s =
        .next { s with
          txlen := 4#8, tx := ⟨0xAA#8, 0x02#8, 0x4A#8, cs, 0#8, 0#8, 0#8⟩,
          trace := s.trace ++ [.write [0xAA#8, 0x02#8, 0x4A#8, cs]], attempts := 0#8, fsm := .read }) ∧
    (s.phase = .inf →
      exec (.frameInfo hi lo cs) s =
        .next { s with
          txlen := 6#8, tx := ⟨0xAA#8, 0x04#8, 0x4E#8, hi, lo, cs, 0#8⟩,
          trace := s.trace ++ [.write [0xAA#8, 0x04#8, 0x4E#8, hi, lo, cs]], attempts := 0#8, fsm := .read })

/-- R197, R198, R233: a Send frame in `TX` of phase `SND` is recorded and written whole, and the request completes
with `OK` with no read. -/
def Obligations.SendFrameCompletes : Prop :=
  ∀ (hi lo key cs : Byte) (s : State), s.fsm = .tx → s.phase = .snd →
    exec (.frameSend hi lo key cs) s =
      .next { s with
        txlen := 7#8, tx := ⟨0xAA#8, 0x05#8, 0x4C#8, hi, lo, key, cs⟩,
        trace := s.trace ++ [.write [0xAA#8, 0x05#8, 0x4C#8, hi, lo, key, cs]],
        result := .ok, busy := false, done := true, fsm := .idle }

/-- R197: the engine's step in `TX` sends exactly the frame of the Frame Builder for the phase, channel and action in
progress, as one event. -/
def Obligations.TxStepSendsBuiltFrame : Prop :=
  ∀ (s : State) (frame : List Byte), s.staged = none → s.turn = .engine → s.fsm = .tx →
    frameFor s.phase s.req = .ok frame →
    ∃ t, step s = .next t ∧ t.trace = s.trace ++ [.write frame] ∧ t.txlen.toNat = frame.length ∧
      t.tx = Buf.ofList frame ∧ t.channel = s.channel ∧ t.req = s.req ∧
      (s.phase = .snd → t.fsm = .idle ∧ t.busy = false ∧ t.done = true ∧ t.result = .ok) ∧
      (s.phase ≠ .snd → t.fsm = .read ∧ t.attempts = 0#8 ∧ t.busy = s.busy ∧ t.phase = s.phase)

/-- R198, R208: from acceptance, a valid `SEND` completes in one engine step with `OK`, whatever `MASK` holds and
whatever the channel would answer; its one serial event is the Send frame. -/
def Obligations.SendNeedsNoLearnedChannel : Prop :=
  ∀ (f : ReqFields) (s : State), s.busy = false → s.staged = none → s.agenda = [] →
    1 ≤ f.arg.toNat → f.arg.toNat ≤ 16 → f.action.toNat ≤ 4 →
    ∃ t u key frame, exec (.send f) s = .next t ∧ step t = .next u ∧
      keyOfField f.action = some key ∧ buildSend f.arg.toNat key = some frame ∧
      t.busy = true ∧ u.trace = s.trace ++ [.write frame] ∧ u.result = .ok ∧ u.done = true ∧ u.busy = false ∧ u.fsm = .idle ∧
      u.attempts = 0#8 ∧ u.maskValid = false ∧ u.ackValid = false ∧ u.channel = s.channel

/-! ## The response reader -/

/-- R151, R152, R155: the READ step on an answer of at most seven bytes. The diagnostic output is left open, as D20
asks; an error counts as no bytes (R66). -/
def Obligations.ReadStepEffect : Prop :=
  ∀ (s : State) (bs : List Byte) (a : Answer) (rest : List Answer),
    s.turn = .engine → s.fsm = .read → s.channel = a :: rest → bs.length ≤ 7 →
    (a = .bytes bs ∨ (a = .error ∧ bs = [])) →
    ∃ d, let r : State := { s with
           agenda := s.agenda.tail, channel := rest, attempts := s.attempts + 1#8, rx := Buf.ofList bs,
           rxcnt := BitVec.ofNat 8 bs.length, trace := s.trace ++ [.read bs], diag := d }
      step s = .next (
        if bs.head? = some 0xAA#8 then { r with fsm := .decide }
        else if s.attempts + 1#8 = s.params.maxAttempts then
          { r with result := .timeout, busy := false, done := true, fsm := .idle }
        else { r with fsm := .sleep })

/-- R66, R152, I5: whatever the channel answers, scripted or not, a read attempt returns at most seven bytes, shows
them zero-filled, and goes on; it is accepted exactly when it begins with the marker. -/
def Obligations.EveryAnswerIsRead : Prop :=
  ∀ s : State, s.turn = .engine → s.fsm = .read →
    ∃ t bs, step s = .next t ∧ bs.length ≤ 7 ∧ t.rx = Buf.ofList bs ∧ t.rxcnt.toNat = bs.length ∧
      t.trace = s.trace ++ [.read bs] ∧ (t.fsm = .decide ↔ bs.head? = some 0xAA#8)

/-- R43, R66, R70 (log 4): the bytes a read attempt returns are the first of those the channel gives, and the rest of
a long answer stays in the channel for the next attempt. -/
def Obligations.LongAnswerStaysInChannel : Prop :=
  ∀ (s t : State) (bs : List Byte) (rest : List Answer),
    s.turn = .engine → s.fsm = .read → s.channel = .bytes bs :: rest → 7 < bs.length → step s = .next t →
    ∃ first later, bs = first ++ later ∧ first.length = 7 ∧ t.trace = s.trace ++ [.read first] ∧
      t.channel = .bytes later :: rest

/-- R154: the SLEEP step only goes back to `READ`. -/
def Obligations.SleepStepEffect : Prop :=
  ∀ s : State, s.turn = .engine → s.fsm = .sleep →
    step s = .next { s with agenda := s.agenda.tail, fsm := .read }

/-- R155: when the `MAX_ATTEMPTS`-th attempt fails the marker test, whatever the channel answered, the request
completes with `ERR_TIMEOUT`. -/
def Obligations.LastFailedAttemptTimesOut : Prop :=
  ∀ s : State, s.turn = .engine → s.fsm = .read → s.attempts + 1#8 = s.params.maxAttempts →
    ∃ t bs, step s = .next t ∧ t.trace = s.trace ++ [.read bs] ∧ t.rx = Buf.ofList bs ∧
      t.attempts = s.params.maxAttempts ∧
      (bs.head? ≠ some 0xAA#8 → t.result = .timeout ∧ t.busy = false ∧ t.done = true ∧ t.fsm = .idle)

/-! ## The response interpreter and the DECIDE step -/

/-- R176: a mask encoded into a Confirm frame decodes back, whatever the bytes not read are. -/
def Obligations.ConfirmMaskRoundTrip : Prop :=
  ∀ (M : Word) (x y z : Byte),
    let hi := BitVec.ofNat 8 (M.toNat >>> 8)
    let lo := BitVec.ofNat 8 (M.toNat &&& 0xFF)
    decode (.wireIn [0xAA#8, x, 0x4B#8, hi, lo, y, z]) = .ok (.respConfirm x hi lo y z) ∧
      extractChannelMask hi lo = M

/-- R170, R171: the 17 defined device status values, and the three texts the source gives. -/
def Obligations.KnownStatusValues : Prop :=
  (∀ s : Byte, knownStatus s = true ↔ s.toNat ≤ 0x11 ∧ s.toNat ≠ 0x0C) ∧
  ((List.range 256).filter fun n => knownStatus (BitVec.ofNat 8 n)).length = 17 ∧
  statusText 0x00#8 = "No information" ∧ statusText 0x0A#8 = "Moving up" ∧
  ∀ s : Byte, knownStatus s = false → statusText s = "Unknown"

/-- R172, R201, R233: a Confirm in answer to a `CHECK` gives its mask and completes with `OK`. -/
def Obligations.ConfirmCompletesCheck : Prop :=
  ∀ (len mh ml b5 b6 : Byte) (s : State), s.fsm = .decide → s.phase = .chk → reqOp s.req = opCheck →
    ∃ m : Word, m.toNat = mh.toNat * 256 + ml.toNat ∧
      exec (.respConfirm len mh ml b5 b6) s =
        .next { s with
          mask := m, maskValid := true, result := .ok, busy := false, done := true, fsm := .idle }

/-- R202, R174: a Confirm in the Check part of an `INFO`: a learned channel goes on to the Info frame, an unlearned
one completes with `ERR_CHANNEL_NOT_LEARNED` and sends nothing. -/
def Obligations.ConfirmInCheckPartOfInfo : Prop :=
  ∀ (len mh ml b5 b6 : Byte) (s : State), s.fsm = .decide → s.phase = .chk → reqOp s.req = opInfo →
    1 ≤ (reqArg s.req).toNat → (reqArg s.req).toNat ≤ 16 →
    ∃ m : Word, m.toNat = mh.toNat * 256 + ml.toNat ∧
      exec (.respConfirm len mh ml b5 b6) s =
        .next (if m.getLsbD ((reqArg s.req).toNat - 1) then
          { s with mask := m, maskValid := true, phase := .inf, fsm := .tx }
        else { s with
          mask := m, maskValid := true, result := .channelNotLearned, busy := false, done := true, fsm := .idle })

/-- R204, R236: a Confirm in place of an Ack: unlearned is tested before exhausted; else the Info frame is sent
again. -/
def Obligations.ConfirmInPlaceOfAck : Prop :=
  ∀ (len mh ml b5 b6 : Byte) (s : State), s.fsm = .decide → s.phase = .inf → reqOp s.req = opInfo →
    1 ≤ (reqArg s.req).toNat → (reqArg s.req).toNat ≤ 16 →
    ∃ m : Word, m.toNat = mh.toNat * 256 + ml.toNat ∧
      exec (.respConfirm len mh ml b5 b6) s =
        .next (if m.getLsbD ((reqArg s.req).toNat - 1) = false then
          { s with
            mask := m, maskValid := true, result := .channelNotLearned, busy := false, done := true, fsm := .idle }
        else if s.retries = s.params.infoRetryMax then
          { s with
            mask := m, maskValid := true, result := .infoRetryExhausted, busy := false, done := true, fsm := .idle }
        else { s with mask := m, maskValid := true, retries := s.retries + 1#8, fsm := .tx })

/-- R203, R173, R170: an Ack in phase `INF` gives its status, known or not, and completes with `OK`. -/
def Obligations.AckCompletesInfo : Prop :=
  ∀ (len b3 b4 st b6 : Byte) (s : State), s.fsm = .decide → s.phase = .inf → reqOp s.req = opInfo →
    exec (.respAck len b3 b4 st b6) s =
      .next { s with
        devstat := st, known := decide (st.toNat ≤ 0x11 ∧ st.toNat ≠ 0x0C), ackValid := true,
        result := .ok, busy := false, done := true, fsm := .idle }

/-- R94, R201, R205, R207: any other response is `ERR_INVALID_RESPONSE`: an Ack in the Check phase, and any code but
Confirm and Ack in either phase. -/
def Obligations.UnexpectedResponseIsInvalid : Prop :=
  ∀ (len code b3 b4 b5 b6 : Byte) (s : State), s.fsm = .decide →
    (s.phase = .chk →
      exec (.respAck len b3 b4 b5 b6) s =
        .next { s with result := .invalidResponse, busy := false, done := true, fsm := .idle }) ∧
    (s.phase = .chk ∨ (s.phase = .inf ∧ reqOp s.req = opInfo) →
      exec (.respOther len code b3 b4 b5 b6) s =
        .next { s with result := .invalidResponse, busy := false, done := true, fsm := .idle })

/-- R191 (log 12): a frame or response instruction where the engine is not in the state whose step it is, and a
response for which R200 has no row, stop by name. No run reaches these states (`InvariantGoesOn`). -/
def Obligations.DisabledEngineStepsStop : Prop :=
  ∀ (a b c d e f : Byte) (s : State),
    (s.fsm ≠ .tx ∨ s.phase ≠ .chk → exec (.frameCheck a) s = .fault .stepNotEnabled) ∧
    (s.fsm ≠ .tx ∨ s.phase ≠ .snd → exec (.frameSend a b c d) s = .fault .stepNotEnabled) ∧
    (s.fsm ≠ .tx ∨ s.phase ≠ .inf → exec (.frameInfo a b c) s = .fault .stepNotEnabled) ∧
    (s.fsm ≠ .decide →
      exec (.respConfirm a b c d e) s = .fault .stepNotEnabled ∧
      exec (.respAck a b c d e) s = .fault .stepNotEnabled ∧
      exec (.respOther a b c d e f) s = .fault .stepNotEnabled) ∧
    (s.fsm = .decide → s.phase = .snd →
      exec (.respConfirm a b c d e) s = .fault .noDecideRule ∧
      exec (.respAck a b c d e) s = .fault .noDecideRule ∧
      exec (.respOther a b c d e f) s = .fault .noDecideRule)

/-- R200, R174, R96, R132 (log 12): where the table of R200 has no row, where the channel of an `INFO` is outside
1..16, where the Frame Builder has no frame, and where the buffer is no frame, the machine stops by name. No run
reaches these states (`InvariantGoesOn`). -/
def Obligations.StepsOutsideTheRulesStop : Prop :=
  ∀ (len b3 b4 b5 b6 : Byte) (s : State),
    (s.fsm = .decide → s.phase = .chk → reqOp s.req ≠ opCheck → reqOp s.req ≠ opInfo →
      exec (.respConfirm len b3 b4 b5 b6) s = .fault .noDecideRule) ∧
    (s.fsm = .decide → s.phase = .inf → reqOp s.req ≠ opInfo →
      exec (.respConfirm len b3 b4 b5 b6) s = .fault .noDecideRule ∧
      exec (.respAck len b3 b4 b5 b6) s = .fault .noDecideRule) ∧
    (s.fsm = .decide → s.phase ≠ .snd → reqOp s.req = opInfo → (reqArg s.req).toNat = 0 ∨ 16 < (reqArg s.req).toNat →
      exec (.respConfirm len b3 b4 b5 b6) s = .refused .channelPrecondition) ∧
    (∀ r, s.staged = none → s.turn = .engine → s.fsm = .tx → frameFor s.phase s.req = .error r →
      step s = .refused r) ∧
    (s.turn = .engine → s.fsm = .decide → s.rx.b0 ≠ 0xAA#8 → step s = .refused (.undecodable .noStartMarker))

/-! ## Whole exchanges -/

/-- R201 with V8: from acceptance, a `CHECK` whose first answer is a Confirm of seven bytes ends after three engine
steps with its mask, whatever the bytes not read are. -/
def Obligations.CheckAnsweredAtOnce : Prop :=
  ∀ (f : ReqFields) (s : State) (x mh ml y z : Byte) (rest : List Answer),
    s.busy = false → s.staged = none → s.agenda = [] →
    s.channel = .bytes [0xAA#8, x, 0x4B#8, mh, ml, y, z] :: rest →
    ∃ t u, exec (.check f) s = .next t ∧ run 3 t = .next u ∧
      u.mask.toNat = mh.toNat * 256 + ml.toNat ∧ u.maskValid = true ∧ u.ackValid = false ∧ u.result = .ok ∧
      u.done = true ∧ u.busy = false ∧ u.fsm = .idle ∧ u.attempts = 1#8 ∧ u.channel = rest ∧ u.cksAcc = s.cksAcc ∧
      u.trace = s.trace ++ [.write [0xAA#8, 0x02#8, 0x4A#8, 0x0A#8], .read [0xAA#8, x, 0x4B#8, mh, ml, y, z]]

/-- R209: from acceptance, every request of an exchange is complete within its bound of engine steps, whatever the
channel answers. -/
def Obligations.ExchangesTerminate : Prop :=
  ∀ (w : Word) (i : Instr) (s t : State),
    s.Inv → s.busy = false → s.agenda = [] → decode (.request w) = .ok i → exec i s = .next t → t.busy = true →
    ∃ n u, n ≤ exchangeBound s.params w ∧ run n t = .next u ∧ u.fsm = .idle ∧ u.busy = false ∧ u.done = true

/-- R210: the serial events of an exchange, from acceptance to completion, match the pattern of its request; a request
that starts no exchange has none. -/
def Obligations.ExchangeEventsMatchPattern : Prop :=
  ∀ (w : Word) (i : Instr) (s t : State), s.Inv → s.agenda = [] → decode (.request w) = .ok i → exec i s = .next t →
    (s.busy = true → t.trace = s.trace) ∧
    (t.busy = false → t.trace = s.trace ∧ ∀ n, run n t = .next t) ∧
    (s.busy = false → t.busy = true → ∀ (n : Nat) (u : State), run n t = .next u → u.fsm = .idle →
      ∃ events, u.trace = s.trace ++ events ∧ exchangeEvents s.params w events = true)

/-! ## Registers, host accesses and reset -/

/-- R34, R33, R23: what each register index reads. R71: the host's access at the base plus an index is the access of
that register, and one outside the 32-register block reaches nothing of the engine, for every base (addresses counted
in whole registers, log 21). -/
def Obligations.RegisterMap : Prop :=
  ∀ s : State,
    s.regRead 0x00#5 = s.req ∧
    (s.regRead 0x01#5).toNat = s.result.toByte.toNat * 256 + s.ackValid.toNat * 16 + s.maskValid.toNat * 8
      + s.rej.toNat * 4 + s.done.toNat * 2 + s.busy.toNat ∧
    s.regRead 0x02#5 = s.mask ∧
    (s.regRead 0x03#5).toNat = s.known.toNat * 256 + s.devstat.toNat ∧
    (s.regRead 0x04#5).toNat = s.cksAcc.toNat * 256 + (256 - s.cksAcc.toNat) % 256 ∧
    (s.regRead 0x05#5).toNat = s.retries.toNat * 256 + s.attempts.toNat ∧
    (s.regRead 0x06#5).toNat = s.txlen.toNat ∧
    (s.regRead 0x07#5).toNat = s.rxcnt.toNat ∧
    (∀ k : Nat, k < 7 → (s.regRead (BitVec.ofNat 5 (0x08 + k))).toNat = (s.rx.toList.getD k 0#8).toNat) ∧
    (∀ k : Nat, k < 7 → (s.regRead (BitVec.ofNat 5 (0x10 + k))).toNat = (s.tx.toList.getD k 0#8).toNat) ∧
    s.regRead 0x0F#5 = 0#16 ∧
    (∀ i : RegIndex, 0x17 ≤ i.toNat → s.regRead i = 0#16) ∧
    (∀ (i : RegIndex) (rest : List Turn), s.agenda = .hostLoad (s.params.registerBase + i.toNat) :: rest →
      step s = .next { s with agenda := rest, hostReads := s.hostReads ++ [(i, s.regRead i)] }) ∧
    (∀ (i : RegIndex) (v : Word) (rest : List Turn), s.agenda = .hostStore (s.params.registerBase + i.toNat) v :: rest →
      step s = step { s with agenda := .hostWrite i v :: rest }) ∧
    (∀ (addr : Nat) (v : Word) (rest : List Turn),
      addr < s.params.registerBase ∨ s.params.registerBase + 32 ≤ addr →
      s.agenda = .hostLoad addr :: rest ∨ s.agenda = .hostStore addr v :: rest →
      step s = .next { s with agenda := rest })

/-- R61: a host's read returns the register and changes nothing else. -/
def Obligations.HostReadHasNoSideEffect : Prop :=
  ∀ (s : State) (i : RegIndex), s.turn = .hostRead i →
    ∃ t, step s = .next t ∧ t = { s with agenda := s.agenda.tail, hostReads := s.hostReads ++ [(i, s.regRead i)] } ∧
      ∀ j, t.regRead j = s.regRead j

/-- R62: a write to any register but `REQ` changes nothing. -/
def Obligations.OtherRegisterWritesAreIgnored : Prop :=
  ∀ (s : State) (i : RegIndex) (v : Word), i ≠ 0#5 → s.turn = .hostWrite i v →
    step s = .next { s with agenda := s.agenda.tail }

/-- R260: after reset every register reads 0x0000, the engine is in `IDLE` and `CHK`, and the output `done` is 0. -/
def Obligations.ResetRegistersAreZero : Prop :=
  (∀ i : RegIndex, State.reset.regRead i = 0x0000#16) ∧ State.reset.fsm = .idle ∧ State.reset.phase = .chk ∧
    State.reset.doneOutput = false

/-- R261, R262: a reset at any moment gives the registers and hidden state of reset; no result is reported; the
channel's content, what was sent, and the parameters stay. -/
def Obligations.ResetAbandonsExchange : Prop :=
  ∀ (s : State) (rest : List Turn), s.agenda = .reset :: rest →
    ∃ t, step s = .next t ∧ (∀ i, t.regRead i = 0x0000#16) ∧ t.fsm = .idle ∧ t.phase = .chk ∧ t.done = false ∧
      t.channel = s.channel ∧ t.trace = s.trace ∧ t.params = s.params ∧ t.agenda = rest

/-- R99 (log 19): a `wait` that reads `BUSY` = 1 stays, and the engine's turn comes before its next poll; one that
reads `BUSY` = 0 is over. -/
def Obligations.WaitPollsUntilIdle : Prop :=
  ∀ (s : State) (rest : List Turn), s.agenda = .hostWait :: rest →
    (s.busy = true → step s = .next { s with
      agenda := .engine :: .hostWait :: rest, hostReads := s.hostReads ++ [(statusIndex, s.statusWord)] }) ∧
    (s.busy = false → step s = .next { s with
      agenda := rest, hostReads := s.hostReads ++ [(statusIndex, s.statusWord)] })

/-! ## The whole machine -/

/-- The invariant holds at reset. -/
def Obligations.ResetMeetsInvariant : Prop := State.reset.Inv

/-- Every step keeps the invariant: `BUSY` says whether the engine runs (R40), `DONE` is 0 while it does, `REQ` is a
validated request of its phase (R193), the counters stay within their bounds (R42), the buffers are zero-filled (R31,
R32) and what was sent sums to zero (R111), `TX` shows the phase's frame (R207), `DECIDE` sees accepted buffers only
(R152), valid bits are true (R23), and phase `INF` has a learned channel (R202, R204). -/
def Obligations.InvariantIsKept : Prop := ∀ s t : State, s.Inv → step s = .next t → t.Inv

/-- R230, R234: from the invariant the machine never stops: no error, no result code and no answer of the channel. -/
def Obligations.InvariantGoesOn : Prop := ∀ s : State, s.Inv → ∃ t, step s = .next t

/-- R7: no step changes the parameters. -/
def Obligations.ParametersAreFixed : Prop := ∀ s t : State, s.staged = none → step s = .next t → t.params = s.params

/-- R22, R40, R196: while `BUSY` = 1, no step but a reset changes `REQ`. -/
def Obligations.RequestIsHeldWhileBusy : Prop :=
  ∀ s t : State, s.staged = none → s.busy = true → s.turn ≠ .reset → step s = .next t → t.req = s.req

/-- R23, R24: `DONE` is set only by a completion, and cleared only by the acceptance of a request or a reset. -/
def Obligations.DoneFollowsCompletion : Prop :=
  ∀ s t : State, s.Inv → step s = .next t →
    (s.done = false → t.done = true →
      t.fsm = .idle ∧ t.busy = false ∧ ((s.turn = .engine ∧ s.fsm ≠ .idle) ∨ ∃ w, s.turn = .hostWrite 0#5 w)) ∧
    (s.done = true → t.done = false → s.turn = .reset ∨ (s.busy = false ∧ ∃ w, s.turn = .hostWrite 0#5 w ∧ t.req = w))

/-- R64 to R66, R73: a serial event is a whole frame in `TX`, or one read attempt in `READ`, in the engine's turn; no
other step adds one, and what was seen stays. -/
def Obligations.SerialEventsAreTheEngines : Prop :=
  ∀ s t : State, s.staged = none → step s = .next t →
    t.trace = s.trace ∨
    (s.turn = .engine ∧ s.fsm = .tx ∧ ∃ frame, frameFor s.phase s.req = .ok frame ∧
      t.trace = s.trace ++ [.write frame]) ∨
    (s.turn = .engine ∧ s.fsm = .read ∧ ∃ bs, bs.length ≤ 7 ∧ t.trace = s.trace ++ [.read bs])

/-- R84: `VERBOSE` changes no register, no wire byte and no result: a request in progress whose word differs in that
bit alone takes the same step, but for the diagnostic output. -/
def Obligations.VerboseHasNoEffect : Prop :=
  ∀ (s t : State) (w : Word) (d : List DiagEvent), s.staged = none → s.turn = .engine →
    reqOp w = reqOp s.req → reqArg w = reqArg s.req → reqAction w = reqAction s.req → step s = .next t →
    ∃ d', step { s with req := w, diag := d } = .next { t with req := w, diag := d' }
end

