-- ==== Sys2Proof/Laws/Decode.lean ====
section
/-! SUPPORT. The fields of an encoded request word, and the fields of a word put back together. -/

namespace Sys2Proof

theorem reqOp_encodeRequest (op : BitVec 3) (f : ReqFields) : reqOp (encodeRequest op f) = op := by
  unfold reqOp encodeRequest
  ext i hi
  have : i = 0 ∨ i = 1 ∨ i = 2 := by omega
  rcases this with rfl | rfl | rfl <;> simp

theorem reqRsv_encodeRequest (op : BitVec 3) (f : ReqFields) : reqRsv (encodeRequest op f) = f.rsv := by
  unfold reqRsv encodeRequest
  simp

theorem reqAction_encodeRequest (op : BitVec 3) (f : ReqFields) : reqAction (encodeRequest op f) = f.action := by
  unfold reqAction encodeRequest
  ext i hi
  have : i = 0 ∨ i = 1 ∨ i = 2 := by omega
  rcases this with rfl | rfl | rfl <;> simp

theorem reqVerbose_encodeRequest (op : BitVec 3) (f : ReqFields) : reqVerbose (encodeRequest op f) = f.verbose := by
  unfold reqVerbose encodeRequest
  simp

theorem reqArg_encodeRequest (op : BitVec 3) (f : ReqFields) : reqArg (encodeRequest op f) = f.arg := by
  unfold reqArg encodeRequest
  ext i hi
  have : i = 0 ∨ i = 1 ∨ i = 2 ∨ i = 3 ∨ i = 4 ∨ i = 5 ∨ i = 6 ∨ i = 7 := by omega
  rcases this with rfl | rfl | rfl | rfl | rfl | rfl | rfl | rfl <;> simp

theorem encodeRequest_decodeFields (w : Word) : encodeRequest (reqOp w) (decodeFields w) = w := by
  unfold encodeRequest decodeFields reqOp reqArg reqVerbose reqAction reqRsv
  ext i hi
  have : i = 0 ∨ i = 1 ∨ i = 2 ∨ i = 3 ∨ i = 4 ∨ i = 5 ∨ i = 6 ∨ i = 7 ∨ i = 8 ∨ i = 9 ∨ i = 10 ∨ i = 11
      ∨ i = 12 ∨ i = 13 ∨ i = 14 ∨ i = 15 := by omega
  rcases this with rfl | rfl | rfl | rfl | rfl | rfl | rfl | rfl | rfl | rfl | rfl | rfl | rfl | rfl | rfl | rfl <;>
    simp

theorem decodeFields_encodeRequest (op : BitVec 3) (f : ReqFields) : decodeFields (encodeRequest op f) = f := by
  simp [decodeFields, reqArg_encodeRequest, reqVerbose_encodeRequest, reqAction_encodeRequest,
    reqRsv_encodeRequest]

/-- What the decoder reads from an encoded request word depends on `OP` alone. -/
theorem decodeRequest_encodeRequest (op : BitVec 3) (f : ReqFields) :
    decodeRequest (encodeRequest op f) =
      match op.toNat with
      | 0 => .reservedOp000 f
      | 1 => .check f
      | 2 => .send f
      | 3 => .info f
      | 4 => .cksclr f
      | 5 => .cksadd f
      | 6 => .reservedOp110 f
      | _ => .reservedOp111 f := by
  unfold decodeRequest
  rw [reqOp_encodeRequest, decodeFields_encodeRequest] <;> rfl

/-- The three shapes of a word that the decoder takes for an outbound frame, as equations of the decoder. -/
theorem decodeFrame_check (cs : Byte) :
    decodeFrame [startMarker, lenCheck, cmdCheck, cs] = .ok (.frameCheck cs) := rfl

theorem decodeFrame_send (hi lo key cs : Byte) :
    decodeFrame [startMarker, lenSend, cmdSend, hi, lo, key, cs] = .ok (.frameSend hi lo key cs) := rfl

theorem decodeFrame_info (hi lo cs : Byte) :
    decodeFrame [startMarker, lenInfo, cmdInfo, hi, lo, cs] = .ok (.frameInfo hi lo cs) := rfl

theorem decodeResponse_marker (len code b3 b4 b5 b6 : Byte) :
    decodeResponse [startMarker, len, code, b3, b4, b5, b6] =
      if code = cmdConfirm then .ok (.respConfirm len b3 b4 b5 b6)
      else if code = cmdAck then .ok (.respAck len b3 b4 b5 b6)
      else .ok (.respOther len code b3 b4 b5 b6) := by
  simp [decodeResponse]

end Sys2Proof
end

