-- ==== Sys2Proof/Laws/Operands.lean ====
section
/-! SUPPORT. What the operand functions give: sums and checksums, channels, key codes, and the frames of the Frame
Builder with the instructions they are. -/

namespace Sys2Proof

theorem byteSum_append (a b : List Byte) : byteSum (a ++ b) = byteSum a + byteSum b := by
  induction a with
  | nil => simp [byteSum]
  | cons x xs ih => simp [byteSum, ih]; omega

theorem checksum_toNat (m : List Byte) : (checksum m).toNat = (256 - byteSum m % 256) % 256 := by
  simp [checksum]

/-- A 16-bit value of two bytes, as a number. -/
theorem wordOfBytes_toNat (hi lo : Byte) : (wordOfBytes hi lo).toNat = hi.toNat * 256 + lo.toNat := by
  have hh := hi.isLt
  have hl := lo.isLt
  have h8 : hi.toNat * 256 = hi.toNat <<< 8 := by rw [Nat.shiftLeft_eq]
  simp only [wordOfBytes, BitVec.toNat_or, BitVec.toNat_shiftLeft, BitVec.toNat_setWidth]
  rw [Nat.mod_eq_of_lt (by omega), Nat.mod_eq_of_lt (by omega : lo.toNat < 2 ^ 16), h8,
    ← Nat.shiftLeft_add_eq_or_of_lt (by omega), Nat.mod_eq_of_lt (by omega)]

/-- The learned test is a bit of the mask (R25). -/
theorem isLearned_eq_bit (m : Word) (c : Nat) : isLearned m c = m.getLsbD (c - 1) := by
  rcases Nat.mod_two_eq_zero_or_one (m.toNat >>> (c - 1)) with h | h <;>
    simp [isLearned, BitVec.getLsbD, Nat.testBit, Nat.and_comm, h]

/-- A buffer holds an accepted response exactly when the bytes read begin with the marker (R152). -/
theorem markerOk_ofList (bs : List Byte) :
    markerOk bs.length (Buf.ofList bs) = true ↔ bs.head? = some startMarker := by
  cases bs with
  | nil => simp [markerOk]
  | cons b bs => simp [markerOk, Buf.ofList]

theorem validChannel_iff (a : Byte) : validChannel a = true ↔ 1 ≤ a.toNat ∧ a.toNat ≤ 16 := by
  simp [validChannel]

theorem chanToMask_of_valid {a : Byte} (h : validChannel a = true) : ∃ m, chanToMask a.toNat = some m := by
  rw [validChannel_iff] at h
  unfold chanToMask
  split
  · exact ⟨_, rfl⟩
  · rw [if_pos (by omega)]; exact ⟨_, rfl⟩

theorem keyOfField_of_le {a : BitVec 3} (h : a.toNat ≤ 4) : ∃ key, keyOfField a = some key := by
  have : a.toNat = 0 ∨ a.toNat = 1 ∨ a.toNat = 2 ∨ a.toNat = 3 ∨ a.toNat = 4 := by omega
  unfold keyOfField Action.ofField
  rcases this with h | h | h | h | h <;> rw [h] <;> exact ⟨_, rfl⟩

namespace Machine

/-- The frame of a phase, by its bytes before the checksum. -/
theorem frameFor_bytes {p : Phase} {w : Word} {frame : List Byte} (h : frameFor p w = .ok frame) :
    (p = .chk ∧ frame = withChecksum [startMarker, lenCheck, cmdCheck]) ∨
    (p = .snd ∧ ∃ hi lo key, chanToMask (reqArg w).toNat = some (hi, lo) ∧ keyOfField (reqAction w) = some key ∧
      frame = withChecksum [startMarker, lenSend, cmdSend, hi, lo, key]) ∨
    (p = .inf ∧ ∃ hi lo, chanToMask (reqArg w).toNat = some (hi, lo) ∧
      frame = withChecksum [startMarker, lenInfo, cmdInfo, hi, lo]) := by
  cases p with
  | chk => exact .inl ⟨rfl, by simpa [frameFor, buildCheck] using h.symm⟩
  | snd =>
    refine .inr (.inl ⟨rfl, ?_⟩)
    simp only [frameFor] at h
    split at h
    · cases h
    · rename_i key hk
      simp only [buildSend] at h
      cases hm : chanToMask (reqArg w).toNat with
      | none => simp [hm] at h
      | some m => exact ⟨m.1, m.2, key, rfl, hk, by simpa [hm] using h.symm⟩
  | inf =>
    refine .inr (.inr ⟨rfl, ?_⟩)
    simp only [frameFor, buildInfo] at h
    cases hm : chanToMask (reqArg w).toNat with
    | none => simp [hm] at h
    | some m => exact ⟨m.1, m.2, rfl, by simpa [hm] using h.symm⟩

/-- The Frame Builder has a frame for every phase an exchange of a validated word passes through. -/
theorem frameFor_of_fits {p : Phase} {w : Word} (h : requestFits p w = true) : ∃ frame, frameFor p w = .ok frame := by
  cases p with
  | chk => exact ⟨_, rfl⟩
  | snd =>
    simp only [requestFits, Bool.and_eq_true, decide_eq_true_eq] at h
    obtain ⟨key, hk⟩ := keyOfField_of_le h.2
    obtain ⟨m, hm⟩ := chanToMask_of_valid h.1.2
    simp [frameFor, hk, buildSend, hm]
  | inf =>
    simp only [requestFits, Bool.and_eq_true] at h
    obtain ⟨m, hm⟩ := chanToMask_of_valid h.2
    simp [frameFor, buildInfo, hm]

/-- A frame of the Frame Builder is the instruction of its phase: the TX step on that frame. -/
theorem frameFor_runs {p : Phase} {w : Word} {frame : List Byte} (h : frameFor p w = .ok frame) :
    ∃ i, decode (.wireOut frame) = .ok i ∧ ∀ s, exec i s = txStepOn p frame s := by
  rcases frameFor_bytes h with ⟨rfl, rfl⟩ | ⟨rfl, hi, lo, key, -, -, rfl⟩ | ⟨rfl, hi, lo, -, rfl⟩
  · exact ⟨_, decodeFrame_check _, fun s => rfl⟩
  · exact ⟨_, decodeFrame_send hi lo key _, fun s => rfl⟩
  · exact ⟨_, decodeFrame_info hi lo _, fun s => rfl⟩

/-- The DECIDE step by the buffer's command code (R200). -/
theorem response_runs {b : Buf} {i : Instr} (h : decode (.wireIn b.toList) = .ok i) (s : State) :
    b.b0 = startMarker ∧
    exec i s = inDecide s (if b.b2 = cmdConfirm then decideConfirm (extractChannelMask b.b3 b.b4)
      else decideOther fun s => if b.b2 = cmdAck then (s.setAck b.b5).complete .ok else s.complete .invalidResponse) := by
  simp only [decode, Buf.toList, decodeResponse] at h
  split at h
  · cases h
  · rename_i hm
    refine ⟨by simpa using hm, ?_⟩
    split at h
    · rename_i hc; cases h; rw [if_pos hc]; rfl
    · rename_i hc
      rw [if_neg hc]
      split at h
      · rename_i ha; cases h; simp only [if_pos ha]; rfl
      · rename_i ha; cases h; simp only [if_neg ha]; rfl

/-- An accepted buffer is a response instruction. -/
theorem response_decodes {b : Buf} (h : b.b0 = startMarker) : ∃ i, decode (.wireIn b.toList) = .ok i := by
  simp only [decode, Buf.toList, h, decodeResponse_marker]
  split
  · exact ⟨_, rfl⟩
  · split <;> exact ⟨_, rfl⟩

end Machine

/-! ## Addresses of the host (R71) -/

/-- The address of a register is in the block, and reaches that register. -/
@[simp] theorem Params.registerAt_address (p : Params) (i : RegIndex) : p.registerAt (p.address i) = some i := by
  have h := i.isLt
  have hs : p.registerBase ≤ p.registerBase + i.toNat ∧ p.registerBase + i.toNat < p.registerBase + 32 := by omega
  simp [Params.registerAt, Params.address, hs]

/-- An address reaches a register exactly when it is that register's. -/
theorem Params.registerAt_eq_some {p : Params} {addr : Nat} {i : RegIndex} :
    p.registerAt addr = some i ↔ addr = p.address i := by
  constructor
  · intro h
    unfold Params.registerAt at h
    split at h
    · cases h
      simp only [Params.address, BitVec.toNat_ofNat]
      omega
    · cases h
  · rintro rfl
    exact p.registerAt_address i

/-- An address outside the block reaches no register. -/
theorem Params.registerAt_outside {p : Params} {addr : Nat} (h : addr < p.registerBase ∨ p.registerBase + 32 ≤ addr) :
    p.registerAt addr = none := by
  unfold Params.registerAt
  rw [if_neg (by omega)]

end Sys2Proof
end

