-- ==== Sys2Proof/Laws/State.lean ====
section
/-! SUPPORT. What each named update of State does to each field. -/

namespace Sys2Proof.Machine

variable (s : State)

/-! ## `reject` -/

@[simp] theorem State.reject_req : (s.reject).req = s.req := rfl
@[simp] theorem State.reject_busy : (s.reject).busy = s.busy := rfl
@[simp] theorem State.reject_done : (s.reject).done = s.done := rfl
@[simp] theorem State.reject_rej : (s.reject).rej = true := rfl
@[simp] theorem State.reject_maskValid : (s.reject).maskValid = s.maskValid := rfl
@[simp] theorem State.reject_ackValid : (s.reject).ackValid = s.ackValid := rfl
@[simp] theorem State.reject_result : (s.reject).result = s.result := rfl
@[simp] theorem State.reject_mask : (s.reject).mask = s.mask := rfl
@[simp] theorem State.reject_devstat : (s.reject).devstat = s.devstat := rfl
@[simp] theorem State.reject_known : (s.reject).known = s.known := rfl
@[simp] theorem State.reject_cksAcc : (s.reject).cksAcc = s.cksAcc := rfl
@[simp] theorem State.reject_attempts : (s.reject).attempts = s.attempts := rfl
@[simp] theorem State.reject_retries : (s.reject).retries = s.retries := rfl
@[simp] theorem State.reject_txlen : (s.reject).txlen = s.txlen := rfl
@[simp] theorem State.reject_rxcnt : (s.reject).rxcnt = s.rxcnt := rfl
@[simp] theorem State.reject_rx : (s.reject).rx = s.rx := rfl
@[simp] theorem State.reject_tx : (s.reject).tx = s.tx := rfl
@[simp] theorem State.reject_fsm : (s.reject).fsm = s.fsm := rfl
@[simp] theorem State.reject_phase : (s.reject).phase = s.phase := rfl
@[simp] theorem State.reject_params : (s.reject).params = s.params := rfl
@[simp] theorem State.reject_agenda : (s.reject).agenda = s.agenda := rfl
@[simp] theorem State.reject_channel : (s.reject).channel = s.channel := rfl
@[simp] theorem State.reject_draws : (s.reject).draws = s.draws := rfl
@[simp] theorem State.reject_trace : (s.reject).trace = s.trace := rfl
@[simp] theorem State.reject_diag : (s.reject).diag = s.diag := rfl
@[simp] theorem State.reject_hostReads : (s.reject).hostReads = s.hostReads := rfl
@[simp] theorem State.reject_staged : (s.reject).staged = s.staged := rfl

/-! ## `latchRequest` -/

@[simp] theorem State.latchRequest_req (w : Word) : (s.latchRequest w).req = w := rfl
@[simp] theorem State.latchRequest_busy (w : Word) : (s.latchRequest w).busy = s.busy := rfl
@[simp] theorem State.latchRequest_done (w : Word) : (s.latchRequest w).done = false := rfl
@[simp] theorem State.latchRequest_rej (w : Word) : (s.latchRequest w).rej = false := rfl
@[simp] theorem State.latchRequest_maskValid (w : Word) : (s.latchRequest w).maskValid = s.maskValid := rfl
@[simp] theorem State.latchRequest_ackValid (w : Word) : (s.latchRequest w).ackValid = s.ackValid := rfl
@[simp] theorem State.latchRequest_result (w : Word) : (s.latchRequest w).result = s.result := rfl
@[simp] theorem State.latchRequest_mask (w : Word) : (s.latchRequest w).mask = s.mask := rfl
@[simp] theorem State.latchRequest_devstat (w : Word) : (s.latchRequest w).devstat = s.devstat := rfl
@[simp] theorem State.latchRequest_known (w : Word) : (s.latchRequest w).known = s.known := rfl
@[simp] theorem State.latchRequest_cksAcc (w : Word) : (s.latchRequest w).cksAcc = s.cksAcc := rfl
@[simp] theorem State.latchRequest_attempts (w : Word) : (s.latchRequest w).attempts = s.attempts := rfl
@[simp] theorem State.latchRequest_retries (w : Word) : (s.latchRequest w).retries = s.retries := rfl
@[simp] theorem State.latchRequest_txlen (w : Word) : (s.latchRequest w).txlen = s.txlen := rfl
@[simp] theorem State.latchRequest_rxcnt (w : Word) : (s.latchRequest w).rxcnt = s.rxcnt := rfl
@[simp] theorem State.latchRequest_rx (w : Word) : (s.latchRequest w).rx = s.rx := rfl
@[simp] theorem State.latchRequest_tx (w : Word) : (s.latchRequest w).tx = s.tx := rfl
@[simp] theorem State.latchRequest_fsm (w : Word) : (s.latchRequest w).fsm = s.fsm := rfl
@[simp] theorem State.latchRequest_phase (w : Word) : (s.latchRequest w).phase = s.phase := rfl
@[simp] theorem State.latchRequest_params (w : Word) : (s.latchRequest w).params = s.params := rfl
@[simp] theorem State.latchRequest_agenda (w : Word) : (s.latchRequest w).agenda = s.agenda := rfl
@[simp] theorem State.latchRequest_channel (w : Word) : (s.latchRequest w).channel = s.channel := rfl
@[simp] theorem State.latchRequest_draws (w : Word) : (s.latchRequest w).draws = s.draws := rfl
@[simp] theorem State.latchRequest_trace (w : Word) : (s.latchRequest w).trace = s.trace := rfl
@[simp] theorem State.latchRequest_diag (w : Word) : (s.latchRequest w).diag = s.diag := rfl
@[simp] theorem State.latchRequest_hostReads (w : Word) : (s.latchRequest w).hostReads = s.hostReads := rfl
@[simp] theorem State.latchRequest_staged (w : Word) : (s.latchRequest w).staged = s.staged := rfl

/-! ## `immediate` -/

@[simp] theorem State.immediate_req (c : ResultCode) : (s.immediate c).req = s.req := rfl
@[simp] theorem State.immediate_busy (c : ResultCode) : (s.immediate c).busy = s.busy := rfl
@[simp] theorem State.immediate_done (c : ResultCode) : (s.immediate c).done = true := rfl
@[simp] theorem State.immediate_rej (c : ResultCode) : (s.immediate c).rej = s.rej := rfl
@[simp] theorem State.immediate_maskValid (c : ResultCode) : (s.immediate c).maskValid = s.maskValid := rfl
@[simp] theorem State.immediate_ackValid (c : ResultCode) : (s.immediate c).ackValid = s.ackValid := rfl
@[simp] theorem State.immediate_result (c : ResultCode) : (s.immediate c).result = c := rfl
@[simp] theorem State.immediate_mask (c : ResultCode) : (s.immediate c).mask = s.mask := rfl
@[simp] theorem State.immediate_devstat (c : ResultCode) : (s.immediate c).devstat = s.devstat := rfl
@[simp] theorem State.immediate_known (c : ResultCode) : (s.immediate c).known = s.known := rfl
@[simp] theorem State.immediate_cksAcc (c : ResultCode) : (s.immediate c).cksAcc = s.cksAcc := rfl
@[simp] theorem State.immediate_attempts (c : ResultCode) : (s.immediate c).attempts = s.attempts := rfl
@[simp] theorem State.immediate_retries (c : ResultCode) : (s.immediate c).retries = s.retries := rfl
@[simp] theorem State.immediate_txlen (c : ResultCode) : (s.immediate c).txlen = s.txlen := rfl
@[simp] theorem State.immediate_rxcnt (c : ResultCode) : (s.immediate c).rxcnt = s.rxcnt := rfl
@[simp] theorem State.immediate_rx (c : ResultCode) : (s.immediate c).rx = s.rx := rfl
@[simp] theorem State.immediate_tx (c : ResultCode) : (s.immediate c).tx = s.tx := rfl
@[simp] theorem State.immediate_fsm (c : ResultCode) : (s.immediate c).fsm = s.fsm := rfl
@[simp] theorem State.immediate_phase (c : ResultCode) : (s.immediate c).phase = s.phase := rfl
@[simp] theorem State.immediate_params (c : ResultCode) : (s.immediate c).params = s.params := rfl
@[simp] theorem State.immediate_agenda (c : ResultCode) : (s.immediate c).agenda = s.agenda := rfl
@[simp] theorem State.immediate_channel (c : ResultCode) : (s.immediate c).channel = s.channel := rfl
@[simp] theorem State.immediate_draws (c : ResultCode) : (s.immediate c).draws = s.draws := rfl
@[simp] theorem State.immediate_trace (c : ResultCode) : (s.immediate c).trace = s.trace := rfl
@[simp] theorem State.immediate_diag (c : ResultCode) : (s.immediate c).diag = s.diag := rfl
@[simp] theorem State.immediate_hostReads (c : ResultCode) : (s.immediate c).hostReads = s.hostReads := rfl
@[simp] theorem State.immediate_staged (c : ResultCode) : (s.immediate c).staged = s.staged := rfl

/-! ## `complete` -/

@[simp] theorem State.complete_req (c : ResultCode) : (s.complete c).req = s.req := rfl
@[simp] theorem State.complete_busy (c : ResultCode) : (s.complete c).busy = false := rfl
@[simp] theorem State.complete_done (c : ResultCode) : (s.complete c).done = true := rfl
@[simp] theorem State.complete_rej (c : ResultCode) : (s.complete c).rej = s.rej := rfl
@[simp] theorem State.complete_maskValid (c : ResultCode) : (s.complete c).maskValid = s.maskValid := rfl
@[simp] theorem State.complete_ackValid (c : ResultCode) : (s.complete c).ackValid = s.ackValid := rfl
@[simp] theorem State.complete_result (c : ResultCode) : (s.complete c).result = c := rfl
@[simp] theorem State.complete_mask (c : ResultCode) : (s.complete c).mask = s.mask := rfl
@[simp] theorem State.complete_devstat (c : ResultCode) : (s.complete c).devstat = s.devstat := rfl
@[simp] theorem State.complete_known (c : ResultCode) : (s.complete c).known = s.known := rfl
@[simp] theorem State.complete_cksAcc (c : ResultCode) : (s.complete c).cksAcc = s.cksAcc := rfl
@[simp] theorem State.complete_attempts (c : ResultCode) : (s.complete c).attempts = s.attempts := rfl
@[simp] theorem State.complete_retries (c : ResultCode) : (s.complete c).retries = s.retries := rfl
@[simp] theorem State.complete_txlen (c : ResultCode) : (s.complete c).txlen = s.txlen := rfl
@[simp] theorem State.complete_rxcnt (c : ResultCode) : (s.complete c).rxcnt = s.rxcnt := rfl
@[simp] theorem State.complete_rx (c : ResultCode) : (s.complete c).rx = s.rx := rfl
@[simp] theorem State.complete_tx (c : ResultCode) : (s.complete c).tx = s.tx := rfl
@[simp] theorem State.complete_fsm (c : ResultCode) : (s.complete c).fsm = .idle := rfl
@[simp] theorem State.complete_phase (c : ResultCode) : (s.complete c).phase = s.phase := rfl
@[simp] theorem State.complete_params (c : ResultCode) : (s.complete c).params = s.params := rfl
@[simp] theorem State.complete_agenda (c : ResultCode) : (s.complete c).agenda = s.agenda := rfl
@[simp] theorem State.complete_channel (c : ResultCode) : (s.complete c).channel = s.channel := rfl
@[simp] theorem State.complete_draws (c : ResultCode) : (s.complete c).draws = s.draws := rfl
@[simp] theorem State.complete_trace (c : ResultCode) : (s.complete c).trace = s.trace := rfl
@[simp] theorem State.complete_diag (c : ResultCode) : (s.complete c).diag = s.diag := rfl
@[simp] theorem State.complete_hostReads (c : ResultCode) : (s.complete c).hostReads = s.hostReads := rfl
@[simp] theorem State.complete_staged (c : ResultCode) : (s.complete c).staged = s.staged := rfl

/-! ## `startExchange` -/

@[simp] theorem State.startExchange_req (p : Phase) : (s.startExchange p).req = s.req := rfl
@[simp] theorem State.startExchange_busy (p : Phase) : (s.startExchange p).busy = true := rfl
@[simp] theorem State.startExchange_done (p : Phase) : (s.startExchange p).done = s.done := rfl
@[simp] theorem State.startExchange_rej (p : Phase) : (s.startExchange p).rej = s.rej := rfl
@[simp] theorem State.startExchange_maskValid (p : Phase) : (s.startExchange p).maskValid = false := rfl
@[simp] theorem State.startExchange_ackValid (p : Phase) : (s.startExchange p).ackValid = false := rfl
@[simp] theorem State.startExchange_result (p : Phase) : (s.startExchange p).result = s.result := rfl
@[simp] theorem State.startExchange_mask (p : Phase) : (s.startExchange p).mask = 0#16 := rfl
@[simp] theorem State.startExchange_devstat (p : Phase) : (s.startExchange p).devstat = 0#8 := rfl
@[simp] theorem State.startExchange_known (p : Phase) : (s.startExchange p).known = false := rfl
@[simp] theorem State.startExchange_cksAcc (p : Phase) : (s.startExchange p).cksAcc = s.cksAcc := rfl
@[simp] theorem State.startExchange_attempts (p : Phase) : (s.startExchange p).attempts = 0#8 := rfl
@[simp] theorem State.startExchange_retries (p : Phase) : (s.startExchange p).retries = 0#8 := rfl
@[simp] theorem State.startExchange_txlen (p : Phase) : (s.startExchange p).txlen = 0#8 := rfl
@[simp] theorem State.startExchange_rxcnt (p : Phase) : (s.startExchange p).rxcnt = 0#8 := rfl
@[simp] theorem State.startExchange_rx (p : Phase) : (s.startExchange p).rx = Buf.zero := rfl
@[simp] theorem State.startExchange_tx (p : Phase) : (s.startExchange p).tx = Buf.zero := rfl
@[simp] theorem State.startExchange_fsm (p : Phase) : (s.startExchange p).fsm = .tx := rfl
@[simp] theorem State.startExchange_phase (p : Phase) : (s.startExchange p).phase = p := rfl
@[simp] theorem State.startExchange_params (p : Phase) : (s.startExchange p).params = s.params := rfl
@[simp] theorem State.startExchange_agenda (p : Phase) : (s.startExchange p).agenda = s.agenda := rfl
@[simp] theorem State.startExchange_channel (p : Phase) : (s.startExchange p).channel = s.channel := rfl
@[simp] theorem State.startExchange_draws (p : Phase) : (s.startExchange p).draws = s.draws := rfl
@[simp] theorem State.startExchange_trace (p : Phase) : (s.startExchange p).trace = s.trace := rfl
@[simp] theorem State.startExchange_diag (p : Phase) : (s.startExchange p).diag = s.diag := rfl
@[simp] theorem State.startExchange_hostReads (p : Phase) : (s.startExchange p).hostReads = s.hostReads := rfl
@[simp] theorem State.startExchange_staged (p : Phase) : (s.startExchange p).staged = s.staged := rfl

/-! ## `setMask` -/

@[simp] theorem State.setMask_req (m : Word) : (s.setMask m).req = s.req := rfl
@[simp] theorem State.setMask_busy (m : Word) : (s.setMask m).busy = s.busy := rfl
@[simp] theorem State.setMask_done (m : Word) : (s.setMask m).done = s.done := rfl
@[simp] theorem State.setMask_rej (m : Word) : (s.setMask m).rej = s.rej := rfl
@[simp] theorem State.setMask_maskValid (m : Word) : (s.setMask m).maskValid = true := rfl
@[simp] theorem State.setMask_ackValid (m : Word) : (s.setMask m).ackValid = s.ackValid := rfl
@[simp] theorem State.setMask_result (m : Word) : (s.setMask m).result = s.result := rfl
@[simp] theorem State.setMask_mask (m : Word) : (s.setMask m).mask = m := rfl
@[simp] theorem State.setMask_devstat (m : Word) : (s.setMask m).devstat = s.devstat := rfl
@[simp] theorem State.setMask_known (m : Word) : (s.setMask m).known = s.known := rfl
@[simp] theorem State.setMask_cksAcc (m : Word) : (s.setMask m).cksAcc = s.cksAcc := rfl
@[simp] theorem State.setMask_attempts (m : Word) : (s.setMask m).attempts = s.attempts := rfl
@[simp] theorem State.setMask_retries (m : Word) : (s.setMask m).retries = s.retries := rfl
@[simp] theorem State.setMask_txlen (m : Word) : (s.setMask m).txlen = s.txlen := rfl
@[simp] theorem State.setMask_rxcnt (m : Word) : (s.setMask m).rxcnt = s.rxcnt := rfl
@[simp] theorem State.setMask_rx (m : Word) : (s.setMask m).rx = s.rx := rfl
@[simp] theorem State.setMask_tx (m : Word) : (s.setMask m).tx = s.tx := rfl
@[simp] theorem State.setMask_fsm (m : Word) : (s.setMask m).fsm = s.fsm := rfl
@[simp] theorem State.setMask_phase (m : Word) : (s.setMask m).phase = s.phase := rfl
@[simp] theorem State.setMask_params (m : Word) : (s.setMask m).params = s.params := rfl
@[simp] theorem State.setMask_agenda (m : Word) : (s.setMask m).agenda = s.agenda := rfl
@[simp] theorem State.setMask_channel (m : Word) : (s.setMask m).channel = s.channel := rfl
@[simp] theorem State.setMask_draws (m : Word) : (s.setMask m).draws = s.draws := rfl
@[simp] theorem State.setMask_trace (m : Word) : (s.setMask m).trace = s.trace := rfl
@[simp] theorem State.setMask_diag (m : Word) : (s.setMask m).diag = s.diag := rfl
@[simp] theorem State.setMask_hostReads (m : Word) : (s.setMask m).hostReads = s.hostReads := rfl
@[simp] theorem State.setMask_staged (m : Word) : (s.setMask m).staged = s.staged := rfl

/-! ## `setAck` -/

@[simp] theorem State.setAck_req (b : Byte) : (s.setAck b).req = s.req := rfl
@[simp] theorem State.setAck_busy (b : Byte) : (s.setAck b).busy = s.busy := rfl
@[simp] theorem State.setAck_done (b : Byte) : (s.setAck b).done = s.done := rfl
@[simp] theorem State.setAck_rej (b : Byte) : (s.setAck b).rej = s.rej := rfl
@[simp] theorem State.setAck_maskValid (b : Byte) : (s.setAck b).maskValid = s.maskValid := rfl
@[simp] theorem State.setAck_ackValid (b : Byte) : (s.setAck b).ackValid = true := rfl
@[simp] theorem State.setAck_result (b : Byte) : (s.setAck b).result = s.result := rfl
@[simp] theorem State.setAck_mask (b : Byte) : (s.setAck b).mask = s.mask := rfl
@[simp] theorem State.setAck_devstat (b : Byte) : (s.setAck b).devstat = b := rfl
@[simp] theorem State.setAck_known (b : Byte) : (s.setAck b).known = knownStatus b := rfl
@[simp] theorem State.setAck_cksAcc (b : Byte) : (s.setAck b).cksAcc = s.cksAcc := rfl
@[simp] theorem State.setAck_attempts (b : Byte) : (s.setAck b).attempts = s.attempts := rfl
@[simp] theorem State.setAck_retries (b : Byte) : (s.setAck b).retries = s.retries := rfl
@[simp] theorem State.setAck_txlen (b : Byte) : (s.setAck b).txlen = s.txlen := rfl
@[simp] theorem State.setAck_rxcnt (b : Byte) : (s.setAck b).rxcnt = s.rxcnt := rfl
@[simp] theorem State.setAck_rx (b : Byte) : (s.setAck b).rx = s.rx := rfl
@[simp] theorem State.setAck_tx (b : Byte) : (s.setAck b).tx = s.tx := rfl
@[simp] theorem State.setAck_fsm (b : Byte) : (s.setAck b).fsm = s.fsm := rfl
@[simp] theorem State.setAck_phase (b : Byte) : (s.setAck b).phase = s.phase := rfl
@[simp] theorem State.setAck_params (b : Byte) : (s.setAck b).params = s.params := rfl
@[simp] theorem State.setAck_agenda (b : Byte) : (s.setAck b).agenda = s.agenda := rfl
@[simp] theorem State.setAck_channel (b : Byte) : (s.setAck b).channel = s.channel := rfl
@[simp] theorem State.setAck_draws (b : Byte) : (s.setAck b).draws = s.draws := rfl
@[simp] theorem State.setAck_trace (b : Byte) : (s.setAck b).trace = s.trace := rfl
@[simp] theorem State.setAck_diag (b : Byte) : (s.setAck b).diag = s.diag := rfl
@[simp] theorem State.setAck_hostReads (b : Byte) : (s.setAck b).hostReads = s.hostReads := rfl
@[simp] theorem State.setAck_staged (b : Byte) : (s.setAck b).staged = s.staged := rfl

/-! ## `recordTx` -/

@[simp] theorem State.recordTx_req (f : List Byte) : (s.recordTx f).req = s.req := rfl
@[simp] theorem State.recordTx_busy (f : List Byte) : (s.recordTx f).busy = s.busy := rfl
@[simp] theorem State.recordTx_done (f : List Byte) : (s.recordTx f).done = s.done := rfl
@[simp] theorem State.recordTx_rej (f : List Byte) : (s.recordTx f).rej = s.rej := rfl
@[simp] theorem State.recordTx_maskValid (f : List Byte) : (s.recordTx f).maskValid = s.maskValid := rfl
@[simp] theorem State.recordTx_ackValid (f : List Byte) : (s.recordTx f).ackValid = s.ackValid := rfl
@[simp] theorem State.recordTx_result (f : List Byte) : (s.recordTx f).result = s.result := rfl
@[simp] theorem State.recordTx_mask (f : List Byte) : (s.recordTx f).mask = s.mask := rfl
@[simp] theorem State.recordTx_devstat (f : List Byte) : (s.recordTx f).devstat = s.devstat := rfl
@[simp] theorem State.recordTx_known (f : List Byte) : (s.recordTx f).known = s.known := rfl
@[simp] theorem State.recordTx_cksAcc (f : List Byte) : (s.recordTx f).cksAcc = s.cksAcc := rfl
@[simp] theorem State.recordTx_attempts (f : List Byte) : (s.recordTx f).attempts = s.attempts := rfl
@[simp] theorem State.recordTx_retries (f : List Byte) : (s.recordTx f).retries = s.retries := rfl
@[simp] theorem State.recordTx_txlen (f : List Byte) : (s.recordTx f).txlen = BitVec.ofNat 8 f.length := rfl
@[simp] theorem State.recordTx_rxcnt (f : List Byte) : (s.recordTx f).rxcnt = s.rxcnt := rfl
@[simp] theorem State.recordTx_rx (f : List Byte) : (s.recordTx f).rx = s.rx := rfl
@[simp] theorem State.recordTx_tx (f : List Byte) : (s.recordTx f).tx = Buf.ofList f := rfl
@[simp] theorem State.recordTx_fsm (f : List Byte) : (s.recordTx f).fsm = s.fsm := rfl
@[simp] theorem State.recordTx_phase (f : List Byte) : (s.recordTx f).phase = s.phase := rfl
@[simp] theorem State.recordTx_params (f : List Byte) : (s.recordTx f).params = s.params := rfl
@[simp] theorem State.recordTx_agenda (f : List Byte) : (s.recordTx f).agenda = s.agenda := rfl
@[simp] theorem State.recordTx_channel (f : List Byte) : (s.recordTx f).channel = s.channel := rfl
@[simp] theorem State.recordTx_draws (f : List Byte) : (s.recordTx f).draws = s.draws := rfl
@[simp] theorem State.recordTx_trace (f : List Byte) : (s.recordTx f).trace = s.trace := rfl
@[simp] theorem State.recordTx_diag (f : List Byte) : (s.recordTx f).diag = s.diag := rfl
@[simp] theorem State.recordTx_hostReads (f : List Byte) : (s.recordTx f).hostReads = s.hostReads := rfl
@[simp] theorem State.recordTx_staged (f : List Byte) : (s.recordTx f).staged = s.staged := rfl

/-! ## `serialWrite` -/

@[simp] theorem State.serialWrite_req (f : List Byte) : (s.serialWrite f).req = s.req := rfl
@[simp] theorem State.serialWrite_busy (f : List Byte) : (s.serialWrite f).busy = s.busy := rfl
@[simp] theorem State.serialWrite_done (f : List Byte) : (s.serialWrite f).done = s.done := rfl
@[simp] theorem State.serialWrite_rej (f : List Byte) : (s.serialWrite f).rej = s.rej := rfl
@[simp] theorem State.serialWrite_maskValid (f : List Byte) : (s.serialWrite f).maskValid = s.maskValid := rfl
@[simp] theorem State.serialWrite_ackValid (f : List Byte) : (s.serialWrite f).ackValid = s.ackValid := rfl
@[simp] theorem State.serialWrite_result (f : List Byte) : (s.serialWrite f).result = s.result := rfl
@[simp] theorem State.serialWrite_mask (f : List Byte) : (s.serialWrite f).mask = s.mask := rfl
@[simp] theorem State.serialWrite_devstat (f : List Byte) : (s.serialWrite f).devstat = s.devstat := rfl
@[simp] theorem State.serialWrite_known (f : List Byte) : (s.serialWrite f).known = s.known := rfl
@[simp] theorem State.serialWrite_cksAcc (f : List Byte) : (s.serialWrite f).cksAcc = s.cksAcc := rfl
@[simp] theorem State.serialWrite_attempts (f : List Byte) : (s.serialWrite f).attempts = s.attempts := rfl
@[simp] theorem State.serialWrite_retries (f : List Byte) : (s.serialWrite f).retries = s.retries := rfl
@[simp] theorem State.serialWrite_txlen (f : List Byte) : (s.serialWrite f).txlen = s.txlen := rfl
@[simp] theorem State.serialWrite_rxcnt (f : List Byte) : (s.serialWrite f).rxcnt = s.rxcnt := rfl
@[simp] theorem State.serialWrite_rx (f : List Byte) : (s.serialWrite f).rx = s.rx := rfl
@[simp] theorem State.serialWrite_tx (f : List Byte) : (s.serialWrite f).tx = s.tx := rfl
@[simp] theorem State.serialWrite_fsm (f : List Byte) : (s.serialWrite f).fsm = s.fsm := rfl
@[simp] theorem State.serialWrite_phase (f : List Byte) : (s.serialWrite f).phase = s.phase := rfl
@[simp] theorem State.serialWrite_params (f : List Byte) : (s.serialWrite f).params = s.params := rfl
@[simp] theorem State.serialWrite_agenda (f : List Byte) : (s.serialWrite f).agenda = s.agenda := rfl
@[simp] theorem State.serialWrite_channel (f : List Byte) : (s.serialWrite f).channel = s.channel := rfl
@[simp] theorem State.serialWrite_draws (f : List Byte) : (s.serialWrite f).draws = s.draws := rfl
@[simp] theorem State.serialWrite_trace (f : List Byte) : (s.serialWrite f).trace = s.trace ++ [.write f] := rfl
@[simp] theorem State.serialWrite_diag (f : List Byte) : (s.serialWrite f).diag = s.diag := rfl
@[simp] theorem State.serialWrite_hostReads (f : List Byte) : (s.serialWrite f).hostReads = s.hostReads := rfl
@[simp] theorem State.serialWrite_staged (f : List Byte) : (s.serialWrite f).staged = s.staged := rfl

/-! ## `latchResponse` -/

@[simp] theorem State.latchResponse_req (bs : List Byte) : (s.latchResponse bs).req = s.req := rfl
@[simp] theorem State.latchResponse_busy (bs : List Byte) : (s.latchResponse bs).busy = s.busy := rfl
@[simp] theorem State.latchResponse_done (bs : List Byte) : (s.latchResponse bs).done = s.done := rfl
@[simp] theorem State.latchResponse_rej (bs : List Byte) : (s.latchResponse bs).rej = s.rej := rfl
@[simp] theorem State.latchResponse_maskValid (bs : List Byte) : (s.latchResponse bs).maskValid = s.maskValid := rfl
@[simp] theorem State.latchResponse_ackValid (bs : List Byte) : (s.latchResponse bs).ackValid = s.ackValid := rfl
@[simp] theorem State.latchResponse_result (bs : List Byte) : (s.latchResponse bs).result = s.result := rfl
@[simp] theorem State.latchResponse_mask (bs : List Byte) : (s.latchResponse bs).mask = s.mask := rfl
@[simp] theorem State.latchResponse_devstat (bs : List Byte) : (s.latchResponse bs).devstat = s.devstat := rfl
@[simp] theorem State.latchResponse_known (bs : List Byte) : (s.latchResponse bs).known = s.known := rfl
@[simp] theorem State.latchResponse_cksAcc (bs : List Byte) : (s.latchResponse bs).cksAcc = s.cksAcc := rfl
@[simp] theorem State.latchResponse_attempts (bs : List Byte) : (s.latchResponse bs).attempts = s.attempts + 1#8 := rfl
@[simp] theorem State.latchResponse_retries (bs : List Byte) : (s.latchResponse bs).retries = s.retries := rfl
@[simp] theorem State.latchResponse_txlen (bs : List Byte) : (s.latchResponse bs).txlen = s.txlen := rfl
@[simp] theorem State.latchResponse_rxcnt (bs : List Byte) : (s.latchResponse bs).rxcnt = BitVec.ofNat 8 bs.length := rfl
@[simp] theorem State.latchResponse_rx (bs : List Byte) : (s.latchResponse bs).rx = Buf.ofList bs := rfl
@[simp] theorem State.latchResponse_tx (bs : List Byte) : (s.latchResponse bs).tx = s.tx := rfl
@[simp] theorem State.latchResponse_fsm (bs : List Byte) : (s.latchResponse bs).fsm = s.fsm := rfl
@[simp] theorem State.latchResponse_phase (bs : List Byte) : (s.latchResponse bs).phase = s.phase := rfl
@[simp] theorem State.latchResponse_params (bs : List Byte) : (s.latchResponse bs).params = s.params := rfl
@[simp] theorem State.latchResponse_agenda (bs : List Byte) : (s.latchResponse bs).agenda = s.agenda := rfl
@[simp] theorem State.latchResponse_channel (bs : List Byte) : (s.latchResponse bs).channel = s.channel := rfl
@[simp] theorem State.latchResponse_draws (bs : List Byte) : (s.latchResponse bs).draws = s.draws := rfl
@[simp] theorem State.latchResponse_trace (bs : List Byte) : (s.latchResponse bs).trace = s.trace ++ [.read bs] := rfl
@[simp] theorem State.latchResponse_diag (bs : List Byte) : (s.latchResponse bs).diag = if reqVerbose s.req then s.diag ++ [⟨Buf.ofList bs, bs.length⟩] else s.diag := rfl
@[simp] theorem State.latchResponse_hostReads (bs : List Byte) : (s.latchResponse bs).hostReads = s.hostReads := rfl
@[simp] theorem State.latchResponse_staged (bs : List Byte) : (s.latchResponse bs).staged = s.staged := rfl

/-! ## `recordRead` -/

@[simp] theorem State.recordRead_req (i : RegIndex) : (s.recordRead i).req = s.req := rfl
@[simp] theorem State.recordRead_busy (i : RegIndex) : (s.recordRead i).busy = s.busy := rfl
@[simp] theorem State.recordRead_done (i : RegIndex) : (s.recordRead i).done = s.done := rfl
@[simp] theorem State.recordRead_rej (i : RegIndex) : (s.recordRead i).rej = s.rej := rfl
@[simp] theorem State.recordRead_maskValid (i : RegIndex) : (s.recordRead i).maskValid = s.maskValid := rfl
@[simp] theorem State.recordRead_ackValid (i : RegIndex) : (s.recordRead i).ackValid = s.ackValid := rfl
@[simp] theorem State.recordRead_result (i : RegIndex) : (s.recordRead i).result = s.result := rfl
@[simp] theorem State.recordRead_mask (i : RegIndex) : (s.recordRead i).mask = s.mask := rfl
@[simp] theorem State.recordRead_devstat (i : RegIndex) : (s.recordRead i).devstat = s.devstat := rfl
@[simp] theorem State.recordRead_known (i : RegIndex) : (s.recordRead i).known = s.known := rfl
@[simp] theorem State.recordRead_cksAcc (i : RegIndex) : (s.recordRead i).cksAcc = s.cksAcc := rfl
@[simp] theorem State.recordRead_attempts (i : RegIndex) : (s.recordRead i).attempts = s.attempts := rfl
@[simp] theorem State.recordRead_retries (i : RegIndex) : (s.recordRead i).retries = s.retries := rfl
@[simp] theorem State.recordRead_txlen (i : RegIndex) : (s.recordRead i).txlen = s.txlen := rfl
@[simp] theorem State.recordRead_rxcnt (i : RegIndex) : (s.recordRead i).rxcnt = s.rxcnt := rfl
@[simp] theorem State.recordRead_rx (i : RegIndex) : (s.recordRead i).rx = s.rx := rfl
@[simp] theorem State.recordRead_tx (i : RegIndex) : (s.recordRead i).tx = s.tx := rfl
@[simp] theorem State.recordRead_fsm (i : RegIndex) : (s.recordRead i).fsm = s.fsm := rfl
@[simp] theorem State.recordRead_phase (i : RegIndex) : (s.recordRead i).phase = s.phase := rfl
@[simp] theorem State.recordRead_params (i : RegIndex) : (s.recordRead i).params = s.params := rfl
@[simp] theorem State.recordRead_agenda (i : RegIndex) : (s.recordRead i).agenda = s.agenda := rfl
@[simp] theorem State.recordRead_channel (i : RegIndex) : (s.recordRead i).channel = s.channel := rfl
@[simp] theorem State.recordRead_draws (i : RegIndex) : (s.recordRead i).draws = s.draws := rfl
@[simp] theorem State.recordRead_trace (i : RegIndex) : (s.recordRead i).trace = s.trace := rfl
@[simp] theorem State.recordRead_diag (i : RegIndex) : (s.recordRead i).diag = s.diag := rfl
@[simp] theorem State.recordRead_hostReads (i : RegIndex) : (s.recordRead i).hostReads = s.hostReads ++ [(i, s.regRead i)] := rfl
@[simp] theorem State.recordRead_staged (i : RegIndex) : (s.recordRead i).staged = s.staged := rfl

/-! ## `advance` -/

@[simp] theorem advance_req : (advance s).req = s.req := rfl
@[simp] theorem advance_busy : (advance s).busy = s.busy := rfl
@[simp] theorem advance_done : (advance s).done = s.done := rfl
@[simp] theorem advance_rej : (advance s).rej = s.rej := rfl
@[simp] theorem advance_maskValid : (advance s).maskValid = s.maskValid := rfl
@[simp] theorem advance_ackValid : (advance s).ackValid = s.ackValid := rfl
@[simp] theorem advance_result : (advance s).result = s.result := rfl
@[simp] theorem advance_mask : (advance s).mask = s.mask := rfl
@[simp] theorem advance_devstat : (advance s).devstat = s.devstat := rfl
@[simp] theorem advance_known : (advance s).known = s.known := rfl
@[simp] theorem advance_cksAcc : (advance s).cksAcc = s.cksAcc := rfl
@[simp] theorem advance_attempts : (advance s).attempts = s.attempts := rfl
@[simp] theorem advance_retries : (advance s).retries = s.retries := rfl
@[simp] theorem advance_txlen : (advance s).txlen = s.txlen := rfl
@[simp] theorem advance_rxcnt : (advance s).rxcnt = s.rxcnt := rfl
@[simp] theorem advance_rx : (advance s).rx = s.rx := rfl
@[simp] theorem advance_tx : (advance s).tx = s.tx := rfl
@[simp] theorem advance_fsm : (advance s).fsm = s.fsm := rfl
@[simp] theorem advance_phase : (advance s).phase = s.phase := rfl
@[simp] theorem advance_params : (advance s).params = s.params := rfl
@[simp] theorem advance_agenda : (advance s).agenda = s.agenda.tail := rfl
@[simp] theorem advance_channel : (advance s).channel = s.channel := rfl
@[simp] theorem advance_draws : (advance s).draws = s.draws := rfl
@[simp] theorem advance_trace : (advance s).trace = s.trace := rfl
@[simp] theorem advance_diag : (advance s).diag = s.diag := rfl
@[simp] theorem advance_hostReads : (advance s).hostReads = s.hostReads := rfl
@[simp] theorem advance_staged : (advance s).staged = none := rfl

end Sys2Proof.Machine
end

