-- ==== Sys2Proof/Laws/Ops.lean ====
section
/-! SUPPORT. One lemma for each shared operation that says everything it can do. -/

namespace Sys2Proof.Machine

/-! ## Acceptance -/

/-- A word written while the engine is busy only sets `REJ`. -/
theorem State.accept_busy {s : State} (h : s.busy = true) (w : Word) (k : State → State) :
    s.accept w k = { s with rej := true } := by simp [State.accept, h, State.reject]

/-- A word written while the engine is idle is dispatched with `REQ` holding it. -/
theorem State.accept_idle {s : State} (h : s.busy = false) (w : Word) (k : State → State) :
    s.accept w k = k { s with req := w, done := false, rej := false } := by
  simp [State.accept, h, State.latchRequest]

/-! ## One read attempt -/

/-- A read attempt consumes from the channel and changes nothing else. -/
theorem State.consumeRead_only_channel (s : State) :
    ∃ ch d, s.consumeRead = { s with channel := ch, draws := d } := by
  unfold State.consumeRead State.takeAnswer
  split
  · split
    · exact ⟨_, s.draws, rfl⟩
    · exact ⟨s.channel, _, rfl⟩
  · split
    · exact ⟨_, s.draws, rfl⟩
    · exact ⟨_, _, rfl⟩

/-- A read attempt returns at most seven bytes (R66). -/
theorem State.readBytes_length_le (s : State) : s.readBytes.length ≤ 7 := by
  simp [State.readBytes, respLen]

/-- The READ step: accepted, timed out, or asleep; its registers, its event, and the channel are all it writes. -/
theorem State.readStep_cases (s : State) :
    ∃ ch d r, r = ({ s with channel := ch, draws := d } : State).latchResponse s.readBytes ∧
      ((markerOk s.readBytes.length r.rx = true ∧ s.readStep = { r with fsm := .decide }) ∨
       (markerOk s.readBytes.length r.rx = false ∧ r.attempts = s.params.maxAttempts ∧ s.readStep = r.complete .timeout) ∨
       (markerOk s.readBytes.length r.rx = false ∧ r.attempts ≠ s.params.maxAttempts ∧
        s.readStep = { r with fsm := .sleep })) := by
  obtain ⟨ch, d, h⟩ := s.consumeRead_only_channel
  refine ⟨ch, d, _, rfl, ?_⟩
  simp only [State.readStep, State.afterRead, h]
  by_cases hm : markerOk s.readBytes.length
      (({ s with channel := ch, draws := d } : State).latchResponse s.readBytes).rx = true
  · exact .inl ⟨hm, if_pos hm⟩
  · rw [if_neg hm]
    rw [Bool.not_eq_true] at hm
    by_cases ha : (({ s with channel := ch, draws := d } : State).latchResponse s.readBytes).attempts
        = s.params.maxAttempts
    · exact .inr (.inl ⟨hm, ha, if_pos ha⟩)
    · exact .inr (.inr ⟨hm, ha, if_neg ha⟩)

/-! ## Transmission -/

/-- The TX step of a Send completes; any other TX step waits for a response. -/
theorem State.transmit_cases (frame : List Byte) (s : State) :
    (s.phase = .snd ∧ s.transmit frame =
      { s with
        txlen := BitVec.ofNat 8 frame.length, tx := Buf.ofList frame, trace := s.trace ++ [.write frame],
        result := .ok, busy := false, done := true, fsm := .idle }) ∨
    (s.phase ≠ .snd ∧ s.transmit frame =
      { s with
        txlen := BitVec.ofNat 8 frame.length, tx := Buf.ofList frame, trace := s.trace ++ [.write frame],
        attempts := 0#8, fsm := .read }) := by
  by_cases h : s.phase = .snd
  · exact .inl ⟨h, by simp [State.transmit, State.afterWrite, h, State.complete, State.recordTx, State.serialWrite]⟩
  · exact .inr ⟨h, by simp [State.transmit, State.afterWrite, h, State.recordTx, State.serialWrite]⟩

/-- The TX step runs only in `TX` on its own phase. -/
theorem txStepOn_next {p : Phase} {frame : List Byte} {s t : State} (h : txStepOn p frame s = .next t) :
    s.fsm = .tx ∧ s.phase = p ∧ t = s.transmit frame := by
  unfold txStepOn at h
  split at h
  · rename_i hp; cases h; exact ⟨hp.1, hp.2, rfl⟩
  · cases h

/-! ## The DECIDE step -/

theorem withChannel_next {s t : State} {k : Nat → State} (h : withChannel s k = .next t) :
    validChannel (reqArg s.req) = true ∧ t = k (reqArg s.req).toNat := by
  unfold withChannel at h
  split at h
  · rename_i hv; cases h; exact ⟨hv, rfl⟩
  · cases h

/-- The DECIDE step on a Confirm: the rows 4B of the table of R200. -/
theorem decideConfirm_next {m : Word} {s t : State} (h : decideConfirm m s = .next t) :
    (s.phase = .chk ∧ reqOp s.req = opCheck ∧ t = (s.setMask m).complete .ok) ∨
    (s.phase = .chk ∧ reqOp s.req = opInfo ∧ validChannel (reqArg s.req) = true ∧
      t = s.confirmInfoCheck m (reqArg s.req).toNat) ∨
    (s.phase = .inf ∧ reqOp s.req = opInfo ∧ validChannel (reqArg s.req) = true ∧
      t = s.confirmInfoInfo m (reqArg s.req).toNat) := by
  unfold decideConfirm at h
  split at h
  · rename_i hp
    split at h
    · rename_i ho; cases h; exact .inl ⟨hp, ho, rfl⟩
    · split at h
      · rename_i ho
        obtain ⟨hv, rfl⟩ := withChannel_next h
        exact .inr (.inl ⟨hp, ho, hv, rfl⟩)
      · cases h
  · rename_i hp
    split at h
    · rename_i ho
      obtain ⟨hv, rfl⟩ := withChannel_next h
      exact .inr (.inr ⟨hp, ho, hv, rfl⟩)
    · cases h
  · cases h

/-- A Confirm in phase `CHK` of an `INFO`: learned goes on to the Info frame, unlearned completes (R202). -/
theorem State.confirmInfoCheck_cases (m : Word) (c : Nat) (s : State) :
    (isLearned m c = true ∧ s.confirmInfoCheck m c = { s.setMask m with phase := .inf, fsm := .tx }) ∨
    (isLearned m c = false ∧ s.confirmInfoCheck m c = (s.setMask m).complete .channelNotLearned) := by
  unfold State.confirmInfoCheck
  cases h : isLearned m c
  · exact .inr ⟨rfl, by simp⟩
  · exact .inl ⟨rfl, by simp⟩

/-- A Confirm in phase `INF` (R204): unlearned, exhausted, or another Info frame. -/
theorem State.confirmInfoInfo_cases (m : Word) (c : Nat) (s : State) :
    (isLearned m c = false ∧ s.confirmInfoInfo m c = (s.setMask m).complete .channelNotLearned) ∨
    (isLearned m c = true ∧ s.retries = s.params.infoRetryMax ∧
      s.confirmInfoInfo m c = (s.setMask m).complete .infoRetryExhausted) ∨
    (isLearned m c = true ∧ s.retries ≠ s.params.infoRetryMax ∧
      s.confirmInfoInfo m c = { s.setMask m with retries := s.retries + 1#8, fsm := .tx }) := by
  unfold State.confirmInfoInfo
  cases h : isLearned m c
  · exact .inl ⟨rfl, by simp⟩
  · by_cases hr : s.retries = s.params.infoRetryMax
    · exact .inr (.inl ⟨rfl, hr, by simp [hr]⟩)
    · exact .inr (.inr ⟨rfl, hr, by simp [hr]⟩)

/-- The DECIDE step on a response that is no Confirm. -/
theorem decideOther_next {k : State → State} {s t : State} (h : decideOther k s = .next t) :
    (s.phase = .chk ∧ t = s.complete .invalidResponse) ∨ (s.phase = .inf ∧ reqOp s.req = opInfo ∧ t = k s) := by
  unfold decideOther at h
  split at h
  · rename_i hp; cases h; exact .inl ⟨hp, rfl⟩
  · rename_i hp
    split at h
    · rename_i ho; cases h; exact .inr ⟨hp, ho, rfl⟩
    · cases h
  · cases h

theorem inDecide_next {s t : State} {k : State → Host.Outcome State Fault Refusal} (h : inDecide s k = .next t) :
    s.fsm = .decide ∧ k s = .next t := by
  unfold inDecide at h
  split at h
  · rename_i hd; exact ⟨hd, h⟩
  · cases h

end Sys2Proof.Machine
end

