-- ==== Sys2Proof/Laws/PerInstr.lean ====
section
/-! SUPPORT. The family RoundTrip, one lemma per constructor: a well-formed instruction is what its encoding decodes to. -/

namespace Sys2Proof.Laws

/-- Decoding the encoding of a well-formed instruction gives it back. -/
def RoundTrip.Statement (i : Instr) : Prop := i.wellFormed = true → decode (encode i) = .ok i

theorem RoundTrip.check (f : ReqFields) : RoundTrip.Statement (.check f) := fun _ =>
  congrArg Except.ok (decodeRequest_encodeRequest _ f)

theorem RoundTrip.send (f : ReqFields) : RoundTrip.Statement (.send f) := fun _ =>
  congrArg Except.ok (decodeRequest_encodeRequest _ f)

theorem RoundTrip.info (f : ReqFields) : RoundTrip.Statement (.info f) := fun _ =>
  congrArg Except.ok (decodeRequest_encodeRequest _ f)

theorem RoundTrip.cksclr (f : ReqFields) : RoundTrip.Statement (.cksclr f) := fun _ =>
  congrArg Except.ok (decodeRequest_encodeRequest _ f)

theorem RoundTrip.cksadd (f : ReqFields) : RoundTrip.Statement (.cksadd f) := fun _ =>
  congrArg Except.ok (decodeRequest_encodeRequest _ f)

theorem RoundTrip.reservedOp000 (f : ReqFields) : RoundTrip.Statement (.reservedOp000 f) := fun _ =>
  congrArg Except.ok (decodeRequest_encodeRequest _ f)

theorem RoundTrip.reservedOp110 (f : ReqFields) : RoundTrip.Statement (.reservedOp110 f) := fun _ =>
  congrArg Except.ok (decodeRequest_encodeRequest _ f)

theorem RoundTrip.reservedOp111 (f : ReqFields) : RoundTrip.Statement (.reservedOp111 f) := fun _ =>
  congrArg Except.ok (decodeRequest_encodeRequest _ f)

theorem RoundTrip.frameCheck (cs : Byte) : RoundTrip.Statement (.frameCheck cs) := fun _ => decodeFrame_check cs

theorem RoundTrip.frameSend (hi lo key cs : Byte) : RoundTrip.Statement (.frameSend hi lo key cs) := fun _ =>
  decodeFrame_send hi lo key cs

theorem RoundTrip.frameInfo (hi lo cs : Byte) : RoundTrip.Statement (.frameInfo hi lo cs) := fun _ =>
  decodeFrame_info hi lo cs

theorem RoundTrip.respConfirm (len mh ml b5 b6 : Byte) : RoundTrip.Statement (.respConfirm len mh ml b5 b6) := fun _ =>
  decodeResponse_marker len cmdConfirm mh ml b5 b6

theorem RoundTrip.respAck (len b3 b4 st b6 : Byte) : RoundTrip.Statement (.respAck len b3 b4 st b6) := fun _ =>
  decodeResponse_marker len cmdAck b3 b4 st b6

theorem RoundTrip.respOther (len code b3 b4 b5 b6 : Byte) :
    RoundTrip.Statement (.respOther len code b3 b4 b5 b6) := by
  intro h
  simp only [Instr.wellFormed, Bool.and_eq_true, bne_iff_ne] at h
  simp only [encode, decode, decodeResponse_marker, if_neg h.1, if_neg h.2]

end Sys2Proof.Laws
end

