-- ==== Sys2Proof/Laws/Step.lean ====
section
/-! SUPPORT. What one step can do, said once: every turn of the host and every step of the engine. -/

namespace Sys2Proof.Machine

/-! ## Host accesses by address -/

/-- The host's access at the address of a register is the access of that register. -/
@[simp] theorem Turn.resolve_load (p : Params) (i : RegIndex) :
    (Turn.hostLoad (p.address i)).resolve p = .hostRead i := by simp [Turn.resolve]

@[simp] theorem Turn.resolve_store (p : Params) (i : RegIndex) (v : Word) :
    (Turn.hostStore (p.address i) v).resolve p = .hostWrite i v := by simp [Turn.resolve]

/-! ## Steps -/

/-- What the write of a request word does, by its `OP` (R192 to R196). -/
def requestEffect (w : Word) (s : State) : State :=
  s.accept w fun a =>
    if reqOp w = opCheck then a.startExchange .chk
    else if reqOp w = opSend then
      if validChannel (reqArg w) = false then a.immediate .badChannel
      else if (reqAction w).toNat > 4 then a.immediate .badAction
      else a.startExchange .snd
    else if reqOp w = opInfo then
      if validChannel (reqArg w) = false then a.immediate .badChannel else a.startExchange .chk
    else if reqOp w = opCksclr then State.immediate .ok { a with cksAcc := 0#8 }
    else if reqOp w = opCksadd then State.immediate .ok { a with cksAcc := a.cksAcc + reqArg w }
    else a.immediate .badOp

/-- Running a decoded request word is `requestEffect`. -/
theorem exec_decodeRequest (w : Word) (s : State) : exec (decodeRequest w) s = .next (requestEffect w s) := by
  have hw := encodeRequest_decodeFields w
  generalize ho : reqOp w = o at hw
  have hcases : o = 0b000#3 ∨ o = 0b001#3 ∨ o = 0b010#3 ∨ o = 0b011#3 ∨ o = 0b100#3 ∨ o = 0b101#3 ∨ o = 0b110#3 ∨
      o = 0b111#3 := by
    clear hw ho; revert o; decide
  rcases hcases with rfl | rfl | rfl | rfl | rfl | rfl | rfl | rfl <;>
    simp [decodeRequest, ho, exec, execCheck, execSend, execInfo, execCksclr, execCksadd, execReservedOp000,
      execReservedOp110, execReservedOp111, requestEffect, opCheck, opSend, opInfo, opCksclr, opCksadd, hw,
      decodeFields] at hw ⊢

/-- One step, by whose turn it is. `a` is the state with the turn used up. -/
theorem step_cases {s t : State} (hs : s.staged = none) (h : step s = .next t) :
    ∃ a, a = ({ s with agenda := s.agenda.tail } : State) ∧
    ((s.turn = .engine ∧ s.fsm = .idle ∧ t = a) ∨
     (s.turn = .engine ∧ s.fsm = .tx ∧ ∃ frame, frameFor s.phase s.req = .ok frame ∧ t = a.transmit frame) ∨
     (s.turn = .engine ∧ s.fsm = .read ∧ t = a.readStep) ∨
     (s.turn = .engine ∧ s.fsm = .sleep ∧ t = { a with fsm := .read }) ∨
     (s.turn = .engine ∧ s.fsm = .decide ∧ s.rx.b0 = startMarker ∧
      ((s.rx.b2 = cmdConfirm ∧ decideConfirm (extractChannelMask s.rx.b3 s.rx.b4) a = .next t) ∨
       (s.rx.b2 ≠ cmdConfirm ∧ decideOther (fun s' => if s.rx.b2 = cmdAck then (s'.setAck s.rx.b5).complete .ok
          else s'.complete .invalidResponse) a = .next t))) ∨
     (∃ i, s.turn = .hostRead i ∧ t = a.recordRead i) ∨
     (∃ w, s.turn = .hostWrite 0#5 w ∧ t = requestEffect w a) ∨
     (∃ i w, s.turn = .hostWrite i w ∧ i ≠ 0#5 ∧ t = a) ∨
     (s.turn = .hostWait ∧
      t = State.recordRead statusIndex { s with agenda := if s.busy then .engine :: s.agenda else s.agenda.tail }) ∨
     (s.turn = .reset ∧ t = a.applyReset) ∨
     (∃ addr, (s.turn = .hostLoad addr ∨ ∃ v, s.turn = .hostStore addr v) ∧ t = a)) := by
  have ha : advance s = { s with agenda := s.agenda.tail } := by simp [advance, hs]
  refine ⟨_, rfl, ?_⟩
  unfold step at h
  cases htn : s.turn with
  | engine =>
    cases hf : s.fsm with
    | idle => left; simpa [fetch, quiet, engineQuiet, htn, hf] using h.symm
    | tx =>
      right; left
      simp only [fetch, htn, hf, State.txFrame, hs] at h
      cases hfr : frameFor s.phase s.req with
      | error r => simp [hfr] at h
      | ok frame =>
        obtain ⟨i, hi, hx⟩ := frameFor_runs hfr
        simp only [hfr, hi, hx, ha] at h
        exact ⟨rfl, rfl, frame, rfl, (txStepOn_next h).2.2⟩
    | read => right; right; left; simpa [fetch, quiet, engineQuiet, htn, hf] using h.symm
    | sleep => right; right; right; left; simpa [fetch, quiet, engineQuiet, htn, hf, State.sleepStep] using h.symm
    | decide =>
      right; right; right; right; left
      simp only [fetch, htn, hf] at h
      cases hd : decode (.wireIn s.rx.toList) with
      | error e => simp [hd] at h
      | ok i =>
        obtain ⟨hb, hx⟩ := response_runs hd (advance s)
        simp only [hd] at h
        rw [hx, ha] at h
        refine ⟨rfl, rfl, hb, ?_⟩
        have h2 := (inDecide_next h).2
        split at h2
        · rename_i hc; exact .inl ⟨hc, h2⟩
        · rename_i hc; exact .inr ⟨hc, h2⟩
  | hostRead i =>
    right; right; right; right; right; left
    exact ⟨i, rfl, by simpa [fetch, quiet, htn] using h.symm⟩
  | hostWrite i w =>
    by_cases hi : i = 0#5
    · right; right; right; right; right; right; left
      subst hi
      refine ⟨w, rfl, ?_⟩
      simpa [fetch, htn, decode, exec_decodeRequest, ha] using h.symm
    · right; right; right; right; right; right; right; left
      exact ⟨i, w, rfl, hi, by simpa [fetch, quiet, htn, hi] using h.symm⟩
  | hostWait =>
    right; right; right; right; right; right; right; right; left
    exact ⟨rfl, by simpa [fetch, quiet, htn] using h.symm⟩
  | reset =>
    right; right; right; right; right; right; right; right; right; left
    exact ⟨rfl, by simpa [fetch, quiet, htn] using h.symm⟩
  | hostLoad addr =>
    right; right; right; right; right; right; right; right; right; right
    exact ⟨addr, .inl rfl, by simpa [fetch, quiet, htn] using h.symm⟩
  | hostStore addr v =>
    right; right; right; right; right; right; right; right; right; right
    exact ⟨addr, .inr ⟨v, rfl⟩, by simpa [fetch, quiet, htn] using h.symm⟩

/-- What the engine's own turn never writes: the request, the checksum accumulator, `REJ`, the parameters, and the
host's side. -/
theorem engine_step_frame {s t : State} (hs : s.staged = none) (ht : s.turn = .engine) (h : step s = .next t) :
    t.req = s.req ∧ t.cksAcc = s.cksAcc ∧ t.rej = s.rej ∧ t.params = s.params ∧ t.hostReads = s.hostReads ∧
      t.agenda = s.agenda.tail ∧ t.staged = none := by
  obtain ⟨a, ha, hc⟩ := step_cases hs h
  have hf : a.req = s.req ∧ a.cksAcc = s.cksAcc ∧ a.rej = s.rej ∧ a.params = s.params ∧ a.hostReads = s.hostReads ∧
      a.agenda = s.agenda.tail ∧ a.staged = none := by rw [ha]; exact ⟨rfl, rfl, rfl, rfl, rfl, rfl, hs⟩
  clear ha
  rcases hc with ⟨-, -, rfl⟩ | ⟨-, -, f, -, rfl⟩ | ⟨-, -, rfl⟩ | ⟨-, -, rfl⟩ | ⟨-, -, -, hd⟩ | ⟨i, hx, -⟩ |
    ⟨w, hx, -⟩ | ⟨i, w, hx, -⟩ | ⟨hx, -⟩ | ⟨hx, -⟩ | ⟨addr, hx | ⟨v, hx⟩, -⟩
  · exact hf
  · rcases a.transmit_cases f with ⟨-, e⟩ | ⟨-, e⟩ <;> rw [e] <;> exact hf
  · obtain ⟨ch, d, r, rfl, ⟨-, e⟩ | ⟨-, -, e⟩ | ⟨-, -, e⟩⟩ := a.readStep_cases <;> rw [e] <;> exact hf
  · exact hf
  · rcases hd with ⟨-, hd⟩ | ⟨-, hd⟩
    · rcases decideConfirm_next hd with ⟨-, -, rfl⟩ | ⟨-, -, -, rfl⟩ | ⟨-, -, -, rfl⟩
      · exact hf
      · rcases a.confirmInfoCheck_cases _ _ with ⟨-, e⟩ | ⟨-, e⟩ <;> rw [e] <;> exact hf
      · rcases a.confirmInfoInfo_cases _ _ with ⟨-, e⟩ | ⟨-, -, e⟩ | ⟨-, -, e⟩ <;> rw [e] <;> exact hf
    · rcases decideOther_next hd with ⟨-, rfl⟩ | ⟨-, -, rfl⟩
      · exact hf
      · split <;> exact hf
  all_goals rw [ht] at hx; cases hx

end Sys2Proof.Machine
end

