-- ==== Sys2Proof/Tests/Slice0.lean ====
section
/-! SUPPORT. Tests: ill-formed terms, decodings written out from the spec, single steps with the results of spec/95,
and for each statement with hypotheses a state and operands that meet them. -/

namespace Sys2Proof.Tests

open Sys2Proof.Machine

/-! ## Small states -/

/-- The state a step leaves, if any. -/
def after : Host.Outcome State Fault Refusal → Option State
  | .next s => some s
  | _ => none

/-- A check of the state a step leaves. -/
def leaves (o : Host.Outcome State Fault Refusal) (p : State → Bool) : Bool := (after o).any p

/-- An idle engine with some earlier results. -/
def idle : State := { State.reset with mask := 0x0003#16, maskValid := true, cksAcc := 0xF6#8, result := .timeout, rej := true }

/-- The engine in a state of an exchange of this request word. -/
def busyIn (f : Fsm) (p : Phase) (w : Word) : State := { State.reset with busy := true, fsm := f, phase := p, req := w }

/-- Fields with an operand byte and an action. -/
def fields (arg : Byte) (action : BitVec 3) : ReqFields := ⟨arg, false, action, false⟩

/-- The engine about to make a read attempt that the channel answers with these bytes. -/
def reading (attempts : Byte) (bs : List Byte) : State :=
  { busyIn .read .chk 0x0001#16 with attempts := attempts, channel := [.bytes bs] }

/-- The engine about to examine this buffer. -/
def deciding (p : Phase) (w : Word) (buf : Buf) : State := { busyIn .decide p w with rx := buf, rxcnt := 7#8 }

/-- The Confirm of V8: channel 1 learned. -/
def confirm1 : Buf := ⟨0xAA#8, 0x05#8, 0x4B#8, 0x00#8, 0x01#8, 0x00#8, 0x00#8⟩

/-! ## Well-formedness: one ill-formed term for each check -/

theorem test_illFormed_frameCheck_checksum :
    (Instr.frameCheck 0x0B#8).wellFormed = false := by decide

theorem test_illFormed_frameSend_mask_empty :
    (Instr.frameSend 0x00#8 0x00#8 0x24#8 0xE1#8).wellFormed = false := by decide

theorem test_illFormed_frameSend_mask_two_bits :
    (Instr.frameSend 0x00#8 0x03#8 0x20#8 0xE2#8).wellFormed = false := by decide

theorem test_illFormed_frameSend_key :
    (Instr.frameSend 0x00#8 0x01#8 0x21#8 0xE3#8).wellFormed = false := by decide

theorem test_illFormed_frameSend_checksum :
    (Instr.frameSend 0x00#8 0x01#8 0x20#8 0xE5#8).wellFormed = false := by decide

theorem test_illFormed_frameInfo_mask :
    (Instr.frameInfo 0x01#8 0x01#8 0x02#8).wellFormed = false := by decide

theorem test_illFormed_frameInfo_checksum :
    (Instr.frameInfo 0x00#8 0x01#8 0x04#8).wellFormed = false := by decide

theorem test_illFormed_respOther_confirm :
    (Instr.respOther 0x05#8 0x4B#8 0x00#8 0x00#8 0x00#8 0x00#8).wellFormed = false := by decide

theorem test_illFormed_respOther_ack :
    (Instr.respOther 0x05#8 0x4D#8 0x00#8 0x00#8 0x00#8 0x00#8).wellFormed = false := by decide

/-! ## Decoding: words written out from R80, R81 and R86 to R94, bit fields `ARG VERBOSE ACTION rsv OP` -/

theorem test_decode_check :
    decode (.request 0b00000000_1_000_0_001#16) = .ok (.check ⟨0x00#8, true, 0#3, false⟩) := rfl

theorem test_decode_send :
    decode (.request 0b00000011_0_100_0_010#16) = .ok (.send ⟨0x03#8, false, 4#3, false⟩) := rfl

theorem test_decode_info :
    decode (.request 0b00001100_0_111_1_011#16) = .ok (.info ⟨0x0C#8, false, 7#3, true⟩) := rfl

theorem test_decode_cksclr :
    decode (.request 0b00000000_0_000_0_100#16) = .ok (.cksclr ⟨0x00#8, false, 0#3, false⟩) := rfl

theorem test_decode_cksadd :
    decode (.request 0b10101010_0_000_0_101#16) = .ok (.cksadd ⟨0xAA#8, false, 0#3, false⟩) := rfl

theorem test_decode_reservedOp000 :
    decode (.request 0b00000001_0_000_0_000#16) = .ok (.reservedOp000 ⟨0x01#8, false, 0#3, false⟩) := rfl

theorem test_decode_reservedOp110 :
    decode (.request 0b00000000_0_000_0_110#16) = .ok (.reservedOp110 ⟨0x00#8, false, 0#3, false⟩) := rfl

theorem test_decode_reservedOp111 :
    decode (.request 0b11111111_1_111_1_111#16) = .ok (.reservedOp111 ⟨0xFF#8, true, 7#3, true⟩) := rfl

theorem test_decode_frameCheck :
    decode (.wireOut [0xAA#8, 0x02#8, 0x4A#8, 0x0A#8]) = .ok (.frameCheck 0x0A#8) := rfl

theorem test_decode_frameSend :
    decode (.wireOut [0xAA#8, 0x05#8, 0x4C#8, 0x08#8, 0x00#8, 0x40#8, 0xBD#8]) = .ok (.frameSend 0x08#8 0x00#8 0x40#8 0xBD#8) := rfl

theorem test_decode_frameInfo :
    decode (.wireOut [0xAA#8, 0x04#8, 0x4E#8, 0x80#8, 0x00#8, 0x84#8]) = .ok (.frameInfo 0x80#8 0x00#8 0x84#8) := rfl

theorem test_decode_respConfirm :
    decode (.wireIn [0xAA#8, 0x05#8, 0x4B#8, 0x12#8, 0x34#8, 0x56#8, 0x78#8]) = .ok (.respConfirm 0x05#8 0x12#8 0x34#8 0x56#8 0x78#8) := rfl

theorem test_decode_respAck :
    decode (.wireIn [0xAA#8, 0x05#8, 0x4D#8, 0x00#8, 0x01#8, 0x0A#8, 0x00#8]) = .ok (.respAck 0x05#8 0x00#8 0x01#8 0x0A#8 0x00#8) := rfl

theorem test_decode_respOther :
    decode (.wireIn [0xAA#8, 0x00#8, 0x00#8, 0x00#8, 0x00#8, 0x00#8, 0x00#8]) = .ok (.respOther 0x00#8 0x00#8 0x00#8 0x00#8 0x00#8 0x00#8) := rfl

theorem test_decode_refuses_marker :
    decode (.wireOut [0x00#8, 0x02#8, 0x4A#8, 0x0A#8]) = .error .noStartMarker := rfl

theorem test_decode_refuses_command :
    decode (.wireOut [0xAA#8, 0x05#8, 0x4B#8, 0x00#8, 0x01#8, 0x00#8, 0x00#8]) = .error .unknownCommand := rfl

theorem test_decode_refuses_length :
    decode (.wireOut [0xAA#8, 0x03#8, 0x4A#8, 0x0A#8]) = .error .wrongLengthByte := rfl

theorem test_decode_refuses_count :
    decode (.wireOut [0xAA#8, 0x04#8, 0x4E#8, 0x00#8, 0x01#8]) = .error .wrongByteCount := rfl

/-! ## Single steps, with the results of spec/95 -/

theorem test_check_starts :
    leaves (exec (.check ⟨0xFF#8, false, 7#3, false⟩) idle) fun t =>
      t.regRead 0#5 == 0xFF71#16 && t.regRead 1#5 == 0x0101#16 && t.regRead 2#5 == 0#16 && t.regRead 4#5 == 0xF60A#16 &&
        t.fsm == .tx && t.phase == .chk := by decide

theorem test_send_bad_channel_first :
    leaves (exec (.send (fields 0x11#8 7#3)) State.reset) fun t => t.regRead 1#5 == 0x0402#16 && t.regRead 0#5 == 0x1172#16 := by decide

theorem test_send_bad_action :
    leaves (exec (.send (fields 0x01#8 5#3)) State.reset) fun t => t.regRead 1#5 == 0x0502#16 && t.trace == [] := by decide

theorem test_info_ignores_action :
    leaves (exec (.info (fields 0x01#8 7#3)) State.reset) fun t => t.regRead 1#5 == 0x0001#16 && t.phase == .chk := by decide

theorem test_info_bad_channel :
    leaves (exec (.info (fields 0xFF#8 0#3)) State.reset) fun t => t.regRead 1#5 == 0x0402#16 && t.busy == false := by decide

theorem test_cksclr :
    leaves (exec (.cksclr ⟨0#8, true, 7#3, false⟩) { idle with maskValid := false }) fun t => t.regRead 0#5 == 0x00F4#16 && t.regRead 4#5 == 0#16 && t.regRead 1#5 == 0x0002#16 := by decide

theorem test_cksadd_wraps :
    leaves (exec (.cksadd (fields 0x0A#8 0#3)) idle) fun t => t.regRead 4#5 == 0x0000#16 := by decide

theorem test_cksadd_row4 :
    leaves (exec (.cksadd (fields 0x4A#8 0#3)) { idle with cksAcc := 0xAC#8 }) fun t => t.regRead 4#5 == 0xF60A#16 := by decide

theorem test_reservedOp000 :
    leaves (exec (.reservedOp000 (fields 0#8 0#3)) State.reset) fun t => t.regRead 1#5 == 0x0602#16 && t.fsm == .idle := by decide

theorem test_reservedOp110 :
    leaves (exec (.reservedOp110 (fields 0#8 0#3)) State.reset) fun t => t.regRead 1#5 == 0x0602#16 && t.fsm == .idle := by decide

theorem test_reservedOp111 :
    leaves (exec (.reservedOp111 (fields 0#8 0#3)) State.reset) fun t => t.regRead 1#5 == 0x0602#16 && t.fsm == .idle := by decide

theorem test_busy_send_is_rejected :
    leaves (exec (.send (fields 0x01#8 0#3)) (busyIn .tx .chk 0x0001#16)) fun t =>
      t.regRead 0#5 == 0x0001#16 && t.regRead 1#5 == 0x0005#16 && t.phase == .chk := by decide

theorem test_frameCheck_sent :
    leaves (exec (.frameCheck 0x0A#8) (busyIn .tx .chk 0x0001#16)) fun t =>
      t.trace == [.write [0xAA#8, 0x02#8, 0x4A#8, 0x0A#8]] && t.txlen == 4#8 && t.regRead 0x13#5 == 0x0A#16 && t.fsm == .read := by decide

theorem test_frameSend_sent :
    leaves (step (busyIn .tx .snd 0x0C12#16)) fun t =>
      t.trace == [.write [0xAA#8, 0x05#8, 0x4C#8, 0x08#8, 0x00#8, 0x40#8, 0xBD#8]] && t.regRead 1#5 == 0x0002#16 &&
        t.regRead 0x16#5 == 0xBD#16 := by decide

theorem test_frameInfo_sent :
    leaves (step (busyIn .tx .inf 0x0103#16)) fun t =>
      t.trace == [.write [0xAA#8, 0x04#8, 0x4E#8, 0x00#8, 0x01#8, 0x03#8]] && t.txlen == 6#8 && t.fsm == .read := by decide

theorem test_read_accepts :
    leaves (step (reading 9#8 confirm1.toList)) fun t => t.fsm == .decide && t.attempts == 10#8 && t.rxcnt == 7#8 && t.regRead 0x0C#5 == 0x01#16 := by decide

theorem test_read_fills_with_zeros :
    leaves (step { reading 0#8 [0xAA#8, 0x05#8, 0x4B#8] with rx := confirm1 }) fun t => t.fsm == .decide && t.rxcnt == 3#8 && t.regRead 0x0C#5 == 0#16 := by decide

theorem test_read_misaligned_sleeps :
    leaves (step (reading 0#8 [0x00#8, 0xAA#8, 0x05#8, 0x4B#8, 0x00#8, 0x01#8, 0x00#8])) fun t => t.fsm == .sleep && t.attempts == 1#8 := by decide

theorem test_read_times_out :
    leaves (step (reading 9#8 [])) fun t => t.regRead 1#5 == 0x0102#16 && t.regRead 5#5 == 0x000A#16 && t.fsm == .idle := by decide

theorem test_respConfirm_check :
    leaves (step (deciding .chk 0x0001#16 confirm1)) fun t => t.regRead 1#5 == 0x000A#16 && t.mask == 1#16 && t.fsm == .idle := by decide

theorem test_respConfirm_unlearned :
    leaves (step (deciding .chk 0x0203#16 confirm1)) fun t => t.regRead 1#5 == 0x030A#16 && t.mask == 1#16 && t.trace == [] := by decide

theorem test_respConfirm_exhausted :
    leaves (step { deciding .inf 0x0103#16 confirm1 with retries := 10#8 }) fun t => t.regRead 1#5 == 0x070A#16 := by decide

theorem test_respAck_known :
    leaves (step { deciding .inf 0x0103#16 ⟨0xAA#8, 0x05#8, 0x4D#8, 0x00#8, 0x01#8, 0x0A#8, 0x00#8⟩ with
      mask := 1#16, maskValid := true }) fun t => t.regRead 1#5 == 0x001A#16 && t.regRead 3#5 == 0x010A#16 := by decide

theorem test_respAck_in_check :
    leaves (step (deciding .chk 0x0001#16 ⟨0xAA#8, 0x05#8, 0x4D#8, 0x00#8, 0x01#8, 0x00#8, 0x00#8⟩)) fun t => t.regRead 1#5 == 0x0202#16 && t.mask == 0#16 := by decide

theorem test_respOther_invalid :
    leaves (step (deciding .inf 0x0103#16 ⟨0xAA#8, 0x00#8, 0x4E#8, 0x00#8, 0x00#8, 0x00#8, 0x00#8⟩)) fun t => t.regRead 1#5 == 0x0202#16 := by decide

theorem test_known_boundaries :
    [0x00#8, 0x0B#8, 0x0C#8, 0x0D#8, 0x11#8, 0x12#8, 0xFF#8].map knownStatus = [true, true, false, true, true, false, false] := by decide

theorem test_checksum_vectors :
    [checksum [0xAA#8, 0x02#8, 0x4A#8], checksum [0xAA#8, 0x05#8, 0x4C#8, 0x00#8, 0x00#8, 0x24#8], checksum [0x80#8]]
      = [0x0A#8, 0xE1#8, 0x80#8] := by decide

theorem test_assemble :
    assemble [.request (.check true), .wait, .rd 1#5]
      = some [.hostWrite 0#5 0x0081#16, .hostWait, .hostRead 1#5] := by decide

theorem test_table_word_frame_runs :
    leaves (step (State.reset.withFetchWord 24 0xAA024A)) fun t => t.txlen == 4#8 && t.fsm == .read := by decide

theorem test_load_at_base :
    leaves (step { idle with params := ⟨10#8, 10#8, 0x4000⟩, agenda := [.hostLoad 0x4004] }) fun t =>
      t.hostReads == [(4#5, 0xF60A#16)] && t.agenda == [] := by decide

theorem test_store_at_base :
    leaves (step { idle with params := ⟨10#8, 10#8, 0x4000⟩, agenda := [.hostStore 0x4000 0x0001#16] }) fun t =>
      t.busy && t.req == 0x0001#16 := by decide

/-! ## A state and operands that meet the hypotheses of each statement -/

theorem test_hyp_DecodeInvertsEncode :
    (Instr.frameSend 0x00#8 0x01#8 0x20#8 0xE4#8).wellFormed = true ∧ (Instr.frameInfo 0x80#8 0x00#8 0x84#8).wellFormed = true ∧
      (Instr.respOther 0x02#8 0x4A#8 0#8 0#8 0#8 0#8).wellFormed = true := by decide

theorem test_hyp_EncodeInvertsDecode :
    decode (.wireOut [0xAA#8, 0x02#8, 0x4A#8, 0x0A#8]) = .ok (.frameCheck 0x0A#8) := rfl

theorem test_hyp_RequestWordFields :
    [0x1100#16, 0x1101#16, 0x1102#16, 0x1103#16, 0x1104#16, 0x1105#16, 0x1106#16, 0x1107#16].map (fun w => w.extractLsb' 0 3)
      = [0b000#3, 0b001#3, 0b010#3, 0b011#3, 0b100#3, 0b101#3, 0b110#3, 0b111#3] := by decide

theorem test_hyp_frameFor :
    frameFor .chk 0x0001#16 = .ok [0xAA#8, 0x02#8, 0x4A#8, 0x0A#8] ∧
      frameFor .snd 0x1042#16 = .ok [0xAA#8, 0x05#8, 0x4C#8, 0x80#8, 0x00#8, 0x44#8, 0x41#8] ∧
      frameFor .inf 0x0103#16 = .ok [0xAA#8, 0x04#8, 0x4E#8, 0x00#8, 0x01#8, 0x03#8] := ⟨rfl, rfl, rfl⟩

theorem test_hyp_AssembledWords :
    AsmRequest.toWord (.send 1 .up false) = some 0x0102#16 ∧ AsmRequest.toWord (.send 16 .intermediate true) = some 0x10C2#16 ∧
      AsmRequest.toWord (.info 0 false) = none ∧ AsmRequest.toWord (.info 17 false) = none := by decide

theorem test_hyp_StepRunsDecodedInstruction_request :
    ({ State.reset with agenda := [.hostWrite 0#5 0x0081#16] } : State).staged = none ∧
      ({ State.reset with agenda := [.hostWrite 0#5 0x0081#16] } : State).turn = .hostWrite 0#5 0x0081#16 ∧
      decode (.request 0x0081#16) = .ok (.check ⟨0#8, true, 0#3, false⟩) := ⟨rfl, rfl, rfl⟩

theorem test_hyp_StepRunsDecodedInstruction_frame :
    let s := busyIn .tx .inf 0x1003#16
    s.staged = none ∧ s.turn = .engine ∧ s.fsm = .tx ∧
      frameFor s.phase s.req = .ok [0xAA#8, 0x04#8, 0x4E#8, 0x80#8, 0x00#8, 0x84#8] ∧
      decode (.wireOut [0xAA#8, 0x04#8, 0x4E#8, 0x80#8, 0x00#8, 0x84#8]) = .ok (.frameInfo 0x80#8 0x00#8 0x84#8) := ⟨rfl, rfl, rfl, rfl, rfl⟩

theorem test_hyp_StepRunsDecodedInstruction_response :
    let s := deciding .chk 0x0001#16 confirm1
    s.staged = none ∧ s.turn = .engine ∧ s.fsm = .decide ∧
      decode (.wireIn s.rx.toList) = .ok (.respConfirm 0x05#8 0x00#8 0x01#8 0x00#8 0x00#8) := ⟨rfl, rfl, rfl, rfl⟩

theorem test_hyp_FetchWordIsRun :
    decodeTableWord 16 0x0102 = some (.send (fields 0x01#8 0#3)) ∧
      decodeTableWord 24 0xAA054C = some (.frameSend 0#8 0#8 0#8 0#8) ∧
      decodeTableWord 24 0xAA004B = some (.respConfirm 0#8 0#8 0#8 0#8 0#8) := by decide

theorem test_hyp_ChecksumIgnoresOrder :
    [0xAA#8, 0x02#8, 0x4A#8].Perm [0x02#8, 0xAA#8, 0x4A#8] := .swap _ _ _

theorem test_hyp_engine_idle :
    idle.busy = false ∧ idle.staged = none ∧ idle.agenda = [] := by decide

theorem test_hyp_StreamingChecksum :
    let s : State := { idle with agenda := cksTurns [0xAA#8, 0x02#8] ++ [.hostWait] }
    s.busy = false ∧ s.agenda = cksTurns [0xAA#8, 0x02#8] ++ [.hostWait] := by decide

theorem test_hyp_OnlyChecksumRequestsChangeCks :
    let s : State := { idle with agenda := [.hostWrite 0#5 0x0004#16] }
    s.staged = none ∧ leaves (step s) (fun t => t.cksAcc != s.cksAcc) = true ∧
      leaves (step { idle with agenda := [.reset] }) (fun t => t.cksAcc != idle.cksAcc) = true := by decide

theorem test_hyp_chanToMask :
    chanToMask 1 = some (0x00#8, 0x01#8) ∧ chanToMask 8 = some (0x00#8, 0x80#8) ∧
      chanToMask 9 = some (0x01#8, 0x00#8) ∧ chanToMask 16 = some (0x80#8, 0x00#8) := by decide

theorem test_hyp_ChannelMaskSelectsItsChannel :
    isLearned (wordOfBytes 0x80#8 0x00#8) 16 = true ∧ isLearned (wordOfBytes 0x80#8 0x00#8) 1 = false := by decide

theorem test_hyp_BusyRequestIsDropped :
    (busyIn .read .chk 0x0001#16).busy = true ∧ decode (.request 0x0102#16) = .ok (.send (fields 0x01#8 0#3)) := ⟨rfl, rfl⟩

theorem test_hyp_channel_and_action_bounds :
    [0, 17].map (fun n => validChannel (BitVec.ofNat 8 n)) = [false, false] ∧
      [1, 16].map (fun n => validChannel (BitVec.ofNat 8 n)) = [true, true] ∧
      (4#3).toNat ≤ 4 ∧ 4 < (5#3).toNat := by decide

theorem test_hyp_CheckAndInfoFramesAreSent :
    (busyIn .tx .chk 0x0001#16).fsm = .tx ∧ (busyIn .tx .chk 0x0001#16).phase = .chk ∧
      (busyIn .tx .inf 0x0103#16).fsm = .tx ∧ (busyIn .tx .inf 0x0103#16).phase = .inf := by decide

theorem test_hyp_SendFrameCompletes :
    (busyIn .tx .snd 0x0102#16).fsm = .tx ∧ (busyIn .tx .snd 0x0102#16).phase = .snd := by decide

theorem test_hyp_TxStepSendsBuiltFrame :
    let s := busyIn .tx .snd 0x0102#16
    s.staged = none ∧ s.turn = .engine ∧ s.fsm = .tx ∧
      frameFor s.phase s.req = .ok [0xAA#8, 0x05#8, 0x4C#8, 0x00#8, 0x01#8, 0x20#8, 0xE4#8] := ⟨rfl, rfl, rfl, rfl⟩

theorem test_hyp_ReadStepEffect :
    let s := reading 9#8 confirm1.toList
    s.turn = .engine ∧ s.fsm = .read ∧ s.channel = [.bytes confirm1.toList] ∧ confirm1.toList.length ≤ 7 ∧
      s.attempts + 1#8 = s.params.maxAttempts := by decide

theorem test_hyp_ReadStepEffect_error :
    let s : State := { reading 0#8 [] with channel := [.error] }
    s.turn = .engine ∧ s.fsm = .read ∧ s.channel = [.error] ∧ s.attempts + 1#8 ≠ s.params.maxAttempts := by decide

theorem test_hyp_LongAnswerStaysInChannel :
    let s := reading 0#8 [1#8, 2#8, 3#8, 4#8, 5#8, 6#8, 7#8, 8#8]
    s.turn = .engine ∧ s.fsm = .read ∧ leaves (step s) (fun t => t.channel == [.bytes [8#8]]) = true := by decide

theorem test_hyp_SleepStepEffect :
    (busyIn .sleep .chk 0x0001#16).turn = .engine ∧ (busyIn .sleep .chk 0x0001#16).fsm = .sleep := by decide

theorem test_hyp_LastFailedAttemptTimesOut :
    let s := reading 9#8 [0x55#8]
    s.turn = .engine ∧ s.fsm = .read ∧ s.attempts + 1#8 = s.params.maxAttempts ∧
      leaves (step s) (fun t => t.trace == [.read [0x55#8]]) = true ∧ [0x55#8].head? ≠ some 0xAA#8 := by decide

theorem test_hyp_KnownStatusValues :
    knownStatus 0x12#8 = false := by decide

theorem test_hyp_ConfirmCompletesCheck :
    let s := deciding .chk 0x0001#16 confirm1
    s.fsm = .decide ∧ s.phase = .chk ∧ reqOp s.req = opCheck := by decide

theorem test_hyp_ConfirmInCheckPartOfInfo :
    let s := deciding .chk 0x1003#16 confirm1
    s.fsm = .decide ∧ s.phase = .chk ∧ reqOp s.req = opInfo ∧ 1 ≤ (reqArg s.req).toNat ∧ (reqArg s.req).toNat ≤ 16 := by decide

theorem test_hyp_ConfirmInPlaceOfAck :
    let s : State := { deciding .inf 0x0103#16 confirm1 with retries := 10#8 }
    s.fsm = .decide ∧ s.phase = .inf ∧ reqOp s.req = opInfo ∧ 1 ≤ (reqArg s.req).toNat ∧ (reqArg s.req).toNat ≤ 16 ∧
      s.retries = s.params.infoRetryMax ∧ (0x0001#16).getLsbD ((reqArg s.req).toNat - 1) = true ∧
      (0x0002#16).getLsbD ((reqArg s.req).toNat - 1) = false := by decide

theorem test_hyp_AckCompletesInfo :
    let s := deciding .inf 0x0103#16 confirm1
    s.fsm = .decide ∧ s.phase = .inf ∧ reqOp s.req = opInfo := by decide

theorem test_hyp_UnexpectedResponseIsInvalid :
    (deciding .chk 0x0001#16 confirm1).fsm = .decide ∧ (deciding .chk 0x0001#16 confirm1).phase = .chk ∧
      (deciding .inf 0x0103#16 confirm1).phase = .inf ∧ reqOp (deciding .inf 0x0103#16 confirm1).req = opInfo := by decide

theorem test_hyp_DisabledEngineStepsStop :
    idle.fsm ≠ .tx ∧ (busyIn .tx .inf 0x0103#16).phase ≠ .chk ∧ (busyIn .tx .chk 0x0001#16).phase ≠ .snd ∧
      (busyIn .tx .chk 0x0001#16).phase ≠ .inf ∧ idle.fsm ≠ .decide ∧ (deciding .snd 0x0102#16 confirm1).fsm = .decide ∧
      (deciding .snd 0x0102#16 confirm1).phase = .snd := by decide

theorem test_hyp_StepsOutsideTheRulesStop :
    (reqOp (deciding .chk 0x0102#16 confirm1).req ≠ opCheck ∧ reqOp (deciding .chk 0x0102#16 confirm1).req ≠ opInfo) ∧
      reqOp (deciding .inf 0x0001#16 confirm1).req ≠ opInfo ∧
      ((reqArg 0x0003#16).toNat = 0 ∧ 16 < (reqArg 0x1103#16).toNat ∧ reqOp 0x1103#16 = opInfo) ∧
      (frameFor .snd 0x0152#16).toOption = none ∧ (frameFor .inf 0x0003#16).toOption = none ∧
      (deciding .chk 0x0001#16 Buf.zero).rx.b0 ≠ 0xAA#8 := by decide

theorem test_hyp_CheckAnsweredAtOnce :
    let s : State := { idle with channel := [.bytes confirm1.toList] }
    s.busy = false ∧ s.staged = none ∧ s.agenda = [] ∧
      s.channel = [.bytes [0xAA#8, 0x05#8, 0x4B#8, 0x00#8, 0x01#8, 0x00#8, 0x00#8]] := by decide

theorem test_hyp_ExchangesTerminate :
    idle.Inv ∧ idle.busy = false ∧ idle.agenda = [] ∧ leaves (exec (.info (fields 0x10#8 0#3)) idle) (fun t => t.busy) = true := by decide

theorem test_hyp_ExchangeEventsMatchPattern :
    let s : State := { idle with channel := [.bytes confirm1.toList] }
    s.Inv ∧ s.agenda = [] ∧
      leaves (exec (.check (fields 0#8 0#3)) s) (fun t => t.busy && leaves (run 3 t) fun u => u.fsm == .idle) = true ∧
      leaves (exec (.info (fields 0#8 0#3)) s) (fun t => !t.busy) = true := by decide

theorem test_hyp_ExchangeEventsMatchPattern_busy :
    (busyIn .tx .chk 0x0001#16).Inv ∧ (busyIn .tx .chk 0x0001#16).busy = true ∧ (busyIn .tx .chk 0x0001#16).agenda = [] ∧
      leaves (exec (.cksclr (fields 0#8 0#3)) (busyIn .tx .chk 0x0001#16)) (fun t => t.rej) = true := by decide

theorem test_hyp_RegisterMap :
    (0x17#5).toNat ≥ 0x17 ∧ (0x1F#5).toNat ≥ 0x17 := by decide

/-- A host whose register block begins at 0x4000, with this turn coming. -/
def based (t : Turn) : State := { idle with params := ⟨10#8, 10#8, 0x4000⟩, agenda := [t] }

theorem test_hyp_RegisterMap_in_block :
    (based (.hostLoad 0x4000)).agenda = [.hostLoad ((based (.hostLoad 0x4000)).params.registerBase + (0x00#5).toNat)] ∧
      (based (.hostStore 0x401F 5#16)).agenda
        = [.hostStore ((based (.hostStore 0x401F 5#16)).params.registerBase + (0x1F#5).toNat) 5#16] := by decide

theorem test_hyp_RegisterMap_outside :
    (based (.hostLoad 0x3FFF)).params.registerBase > 0x3FFF ∧ (based (.hostStore 0x4020 5#16)).params.registerBase + 32 ≤ 0x4020 ∧
      leaves (step (based (.hostStore 0x4020 5#16))) (fun t => t.req == 0#16) = true := by decide

theorem test_hyp_host_turns_by_address :
    (based (.hostLoad 0x4001)).turn = .hostRead 1#5 ∧ (based (.hostStore 0x4001 5#16)).turn = .hostWrite 1#5 5#16 ∧
      (based (.hostStore 0x4000 0x0081#16)).turn = .hostWrite 0#5 0x0081#16 := by decide

theorem test_hyp_host_turns :
    ({ idle with agenda := [.hostRead 1#5] } : State).turn = .hostRead 1#5 ∧
      ({ idle with agenda := [.hostWrite 1#5 5#16] } : State).turn = .hostWrite 1#5 5#16 ∧ (1#5 : RegIndex) ≠ 0#5 ∧
      ({ idle with agenda := [.reset] } : State).turn = .reset ∧ ({ idle with agenda := [.hostWait] } : State).turn = .hostWait := by decide

theorem test_hyp_WaitPollsUntilIdle :
    ({ busyIn .tx .chk 0x0001#16 with agenda := [.hostWait] } : State).busy = true ∧
      ({ idle with agenda := [.hostWait] } : State).busy = false := by decide

theorem test_hyp_InvariantIsKept :
    (busyIn .tx .chk 0x0001#16).Inv ∧ leaves (step (busyIn .tx .chk 0x0001#16)) (fun t => t.fsm == .read) = true := by decide

theorem test_hyp_ParametersAreFixed :
    (reading 0#8 []).staged = none ∧ leaves (step (reading 0#8 [])) (fun _ => true) = true := by decide

theorem test_hyp_RequestIsHeldWhileBusy :
    let s : State := { busyIn .tx .chk 0x0001#16 with agenda := [.hostWrite 0#5 0x0102#16] }
    s.staged = none ∧ s.busy = true ∧ s.turn ≠ .reset ∧ leaves (step s) (fun t => t.req == 0x0001#16) = true := by decide

theorem test_hyp_DoneFollowsCompletion_set :
    let s := busyIn .tx .snd 0x0102#16
    s.Inv ∧ s.done = false ∧ leaves (step s) (fun t => t.done) = true := by decide

theorem test_hyp_DoneFollowsCompletion_clear :
    let s : State := { idle with done := true, agenda := [.hostWrite 0#5 0x0001#16] }
    s.Inv ∧ s.done = true ∧ leaves (step s) (fun t => !t.done) = true ∧
      leaves (step { s with agenda := [.reset] }) (fun t => !t.done) = true := by decide

theorem test_hyp_SerialEventsAreTheEngines :
    leaves (step idle) (fun t => t.trace == []) = true ∧
      leaves (step (reading 0#8 [1#8])) (fun t => t.trace == [.read [1#8]]) = true := by decide

theorem test_hyp_VerboseHasNoEffect :
    let s := reading 0#8 []
    s.staged = none ∧ s.turn = .engine ∧ reqOp 0x0081#16 = reqOp s.req ∧ reqArg 0x0081#16 = reqArg s.req ∧
      reqAction 0x0081#16 = reqAction s.req ∧ leaves (step s) (fun t => t.attempts == 1#8) = true := by decide

end Sys2Proof.Tests
end

/-! The parameters are fixed (R7): the operations of the steps that are not the engine's keep them, so every
step does. -/

namespace Sys2Proof.Machine

@[simp] theorem State.applyReset_params (s : State) : s.applyReset.params = s.params := rfl

/-- A written word keeps the parameters when its dispatch does. -/
theorem State.accept_params {k : State → State} (hk : ∀ a, (k a).params = a.params) (w : Word) (s : State) :
    (s.accept w k).params = s.params := by
  cases hb : s.busy with
  | true => rw [State.accept_busy hb]
  | false => rw [State.accept_idle hb, hk]

@[simp] theorem requestEffect_params (w : Word) (s : State) : (requestEffect w s).params = s.params := by
  refine State.accept_params (fun a => ?_) w s
  split_ifs <;> simp

/-- Settles O56: the engine's own turn by `engine_step_frame`, every other turn by the operation it runs. -/
theorem parametersAreFixed : Obligations.ParametersAreFixed := by
  intro s t hs h
  by_cases he : s.turn = .engine
  · obtain ⟨-, -, -, hp, -⟩ := engine_step_frame hs he h
    exact hp
  · obtain ⟨a, rfl, ⟨ht, -⟩ | ⟨ht, -⟩ | ⟨ht, -⟩ | ⟨ht, -⟩ | ⟨ht, -⟩ | hread | hrequest | hignored | hwait | hreset |
      houtside⟩ := step_cases hs h
    iterate 5 exact absurd ht he
    · obtain ⟨i, -, rfl⟩ := hread
      simp
    · obtain ⟨w, -, rfl⟩ := hrequest
      simp
    · obtain ⟨i, w, -, -, rfl⟩ := hignored
      rfl
    · obtain ⟨-, rfl⟩ := hwait
      simp
    · obtain ⟨-, rfl⟩ := hreset
      simp
    · obtain ⟨addr, -, rfl⟩ := houtside
      rfl

end Sys2Proof.Machine

/-! Which turns change the engine, said once, and what the write of a request word does to it. -/

namespace Sys2Proof.Machine

/-! ## The write of a request word -/

/-- A request word written while the engine is busy only sets `REJ` (R196). -/
theorem requestEffect_busy {s : State} (h : s.busy = true) (w : Word) : requestEffect w s = { s with rej := true } :=
  State.accept_busy h w _

/-- A request word written while the engine is idle starts an exchange that it fits, or completes at once; only a
checksum request also writes `CKS_ACC` (R193 to R195). -/
theorem requestEffect_idle {s : State} (h : s.busy = false) (w : Word) :
    ∃ a, a = ({ s with req := w, done := false, rej := false } : State) ∧
    ((∃ p, requestFits p w = true ∧ p ≠ .inf ∧ requestEffect w s = a.startExchange p) ∨
     (∃ c, requestEffect w s = a.immediate c) ∨
     ((reqOp w = opCksclr ∨ reqOp w = opCksadd) ∧
      ∃ acc, requestEffect w s = State.immediate .ok { a with cksAcc := acc })) := by
  refine ⟨_, rfl, ?_⟩
  unfold requestEffect
  rw [State.accept_idle h]
  split_ifs with hcheck hsend hchannel haction hinfo hchannel hclr hadd
  · exact .inl ⟨.chk, by simp [requestFits, hcheck], by simp, rfl⟩
  · exact .inr (.inl ⟨_, rfl⟩)
  · exact .inr (.inl ⟨_, rfl⟩)
  · exact .inl ⟨.snd, by simpa [requestFits, hsend, hchannel] using haction, by simp, rfl⟩
  · exact .inr (.inl ⟨_, rfl⟩)
  · exact .inl ⟨.chk, by simp [requestFits, hinfo, hchannel], by simp, rfl⟩
  · exact .inr (.inr ⟨.inl hclr, _, rfl⟩)
  · exact .inr (.inr ⟨.inr hadd, _, rfl⟩)
  · exact .inr (.inl ⟨_, rfl⟩)

/-- An accepted word is the one `REQ` then holds (R192). -/
theorem requestEffect_idle_req {s : State} (h : s.busy = false) (w : Word) : (requestEffect w s).req = w := by
  obtain ⟨a, rfl, ⟨p, -, -, e⟩ | ⟨c, e⟩ | ⟨-, acc, e⟩⟩ := requestEffect_idle h w <;> rw [e] <;> rfl

/-- A dropped word leaves `REQ` as it was (R196). -/
theorem requestEffect_busy_req {s : State} (h : s.busy = true) (w : Word) : (requestEffect w s).req = s.req := by
  rw [requestEffect_busy h]

/-- A written word that changes `CKS_ACC` is an accepted checksum request (R115, R116). -/
theorem requestEffect_cksAcc_ne {s : State} {w : Word} (h : (requestEffect w s).cksAcc ≠ s.cksAcc) :
    s.busy = false ∧ (reqOp w = opCksclr ∨ reqOp w = opCksadd) := by
  cases hb : s.busy with
  | true => exact absurd (by rw [requestEffect_busy hb]) h
  | false =>
    obtain ⟨a, rfl, ⟨p, -, -, e⟩ | ⟨c, e⟩ | ⟨hop, -⟩⟩ := requestEffect_idle hb w
    · exact absurd (by rw [e]; rfl) h
    · exact absurd (by rw [e]; rfl) h
    · exact ⟨rfl, hop⟩

/-! ## Whose turn changes the engine -/

/-- A step is the running engine's, or the write of a request word, or a reset, or it leaves all but the agenda and
the record of the host's reads as they were. -/
theorem step_turn_cases {s t : State} (hs : s.staged = none) (h : step s = .next t) :
    (s.turn = .engine ∧ s.fsm ≠ .idle) ∨
    (∃ w, s.turn = .hostWrite 0#5 w ∧ t = requestEffect w { s with agenda := s.agenda.tail }) ∨
    (s.turn = .reset ∧ t = State.applyReset { s with agenda := s.agenda.tail }) ∨
    (∃ turns reads, t = { s with agenda := turns, hostReads := reads }) := by
  obtain ⟨a, rfl, ⟨-, -, rfl⟩ | ⟨ht, hf, -⟩ | ⟨ht, hf, -⟩ | ⟨ht, hf, -⟩ | ⟨ht, hf, -⟩ | ⟨i, -, rfl⟩ | ⟨w, ht, rfl⟩ |
    ⟨i, w, -, -, rfl⟩ | ⟨-, rfl⟩ | ⟨ht, rfl⟩ | ⟨addr, -, rfl⟩⟩ := step_cases hs h
  · exact .inr (.inr (.inr ⟨_, _, rfl⟩))
  iterate 4 exact .inl ⟨ht, by simp [hf]⟩
  · exact .inr (.inr (.inr ⟨_, _, rfl⟩))
  · exact .inr (.inl ⟨w, ht, rfl⟩)
  iterate 2 exact .inr (.inr (.inr ⟨_, _, rfl⟩))
  · exact .inr (.inr (.inl ⟨ht, rfl⟩))
  · exact .inr (.inr (.inr ⟨_, _, rfl⟩))

end Sys2Proof.Machine

/-! Every step keeps the invariant. The invariant is taken apart once: what the registers show in every state, and
what more holds while an exchange runs; each operation of a step is then checked against the two parts. -/

namespace Sys2Proof

/-! ## Buffers filled from a byte sequence -/

/-- A buffer filled from at most seven bytes holds them, then zeros. -/
theorem Buf.toList_ofList {bs : List Byte} (h : bs.length ≤ 7) : (Buf.ofList bs).toList = padTo 7 bs := by
  match bs, h with
  | [], _ => rfl
  | [_], _ => rfl
  | [_, _], _ => rfl
  | [_, _, _], _ => rfl
  | [_, _, _, _], _ => rfl
  | [_, _, _, _, _], _ => rfl
  | [_, _, _, _, _, _], _ => rfl
  | [_, _, _, _, _, _, _], _ => rfl

theorem byteSum_replicate_zero (n : Nat) : byteSum (List.replicate n 0#8) = 0 := by
  induction n with
  | zero => rfl
  | succ n ih => simp [List.replicate_succ, byteSum, ih]

theorem byteSum_padTo (n : Nat) (bs : List Byte) : byteSum (padTo n bs) = byteSum bs := by
  rw [padTo, byteSum_append, byteSum_replicate_zero, Nat.add_zero]

/-- A byte sequence with its checksum sums to 0 modulo 256 (R111). -/
theorem byteSum_withChecksum (m : List Byte) : byteSum (withChecksum m) % 256 = 0 := by
  have hsum : byteSum (withChecksum m) = byteSum m + (checksum m).toNat := by
    simp [withChecksum, byteSum_append, byteSum]
  rw [hsum, checksum_toNat]
  omega

namespace Machine

theorem Buf.zeroFrom_ofList {bs : List Byte} (h : bs.length ≤ 7) : Buf.zeroFrom bs.length (Buf.ofList bs) = true := by
  simp [Buf.zeroFrom, Buf.toList_ofList h, padTo]

/-- A frame of the Frame Builder has 4, 6 or 7 bytes and sums to 0 modulo 256 (R29, R111). -/
theorem frameFor_length_and_sum {p : Phase} {w : Word} {frame : List Byte} (h : frameFor p w = .ok frame) :
    (frame.length = 4 ∨ frame.length = 6 ∨ frame.length = 7) ∧ byteSum frame % 256 = 0 := by
  rcases frameFor_bytes h with ⟨-, rfl⟩ | ⟨-, hi, lo, key, -, -, rfl⟩ | ⟨-, hi, lo, -, rfl⟩ <;>
    exact ⟨by simp [withChecksum], byteSum_withChecksum _⟩

/-! ## The invariant in two parts -/

/-- What the registers and parameters show in every state of the invariant. -/
structure State.RegistersSound (s : State) : Prop where
  legal : s.params.Legal
  notStaged : s.staged = none
  attemptsBound : s.attempts.toNat ≤ s.params.maxAttempts.toNat
  retriesBound : s.retries.toNat ≤ s.params.infoRetryMax.toNat
  received : s.ReceivedZeroFilled
  sent : s.SentFrameRecorded
  validBits : s.ValidBitsTrue

/-- What holds besides while an exchange runs. -/
structure State.Exchanging (s : State) : Prop where
  running : s.fsm ≠ .idle
  busy : s.busy = true
  notDone : s.done = false
  fits : requestFits s.phase s.req = true
  sendOnlySends : s.phase = .snd → s.fsm = .tx
  attemptsLeft : s.fsm = .read ∨ s.fsm = .sleep → s.attempts.toNat < s.params.maxAttempts.toNat
  noRetryYet : s.phase = .chk → s.retries = 0#8
  frameShown : s.SentFrameOfPhase
  accepted : s.AcceptedInDecide
  learned : s.phase = .inf → s.maskValid = true ∧ isLearned s.mask (reqArg s.req).toNat = true

/-- The invariant: the registers are sound, and the engine either rests in `IDLE` or is in an exchange. -/
theorem State.inv_iff {s : State} :
    s.Inv ↔ s.RegistersSound ∧ ((s.fsm = .idle ∧ s.busy = false) ∨ s.Exchanging) := by
  constructor
  · rintro ⟨hlegal, hstaged, hbusy, hdone, hreq, ⟨ha, hr, hleft, hretry⟩, hrx, htx, hframe, haccepted, hvalid, hlearned⟩
    refine ⟨⟨hlegal, hstaged, ha, hr, hrx, htx, hvalid⟩, ?_⟩
    by_cases hf : s.fsm = .idle
    · exact .inl ⟨hf, by simpa [State.BusyIffRunning, hf] using hbusy⟩
    · exact .inr ⟨hf, hbusy.2 hf, hdone hf, (hreq hf).1, (hreq hf).2, hleft, fun hp => hretry ⟨hf, hp⟩, hframe,
        haccepted, fun hp => hlearned ⟨hf, hp⟩⟩
  · rintro ⟨⟨hlegal, hstaged, ha, hr, hrx, htx, hvalid⟩, ⟨hf, hb⟩ | he⟩
    · have hnot : ¬s.fsm ≠ .idle := not_not_intro hf
      exact ⟨hlegal, hstaged, by simp [State.BusyIffRunning, hf, hb], fun hn => absurd hn hnot,
        fun hn => absurd hn hnot, ⟨ha, hr, by simp [hf], fun hn => absurd hn.1 hnot⟩, hrx, htx,
        by simp [State.SentFrameOfPhase, hf], by simp [State.AcceptedInDecide, hf], hvalid, fun hn => absurd hn.1 hnot⟩
    · exact ⟨hlegal, hstaged, ⟨fun _ => he.running, fun _ => he.busy⟩, fun _ => he.notDone,
        fun _ => ⟨he.fits, he.sendOnlySends⟩, ⟨ha, hr, he.attemptsLeft, fun hp => he.noRetryYet hp.2⟩, hrx, htx,
        he.frameShown, he.accepted, hvalid, fun hp => he.learned hp.2⟩

/-! ## The operations keep the registers sound -/

section Registers

variable {s : State} (h : s.RegistersSound)
include h

theorem State.RegistersSound.setMask (m : Word) : (s.setMask m).RegistersSound :=
  { h with validBits := ⟨by simp, h.validBits.2⟩ }

theorem State.RegistersSound.setAck (st : Byte) : (s.setAck st).RegistersSound :=
  { h with validBits := ⟨h.validBits.1, by simp, fun _ => rfl⟩ }

theorem State.RegistersSound.recordTx {p : Phase} {w : Word} {frame : List Byte} (hf : frameFor p w = .ok frame) :
    (s.recordTx frame).RegistersSound := by
  obtain ⟨hlen, hsum⟩ := frameFor_length_and_sum hf
  have hle : frame.length ≤ 7 := by omega
  refine { h with sent := ⟨?_, ?_, ?_⟩ }
  · rcases hlen with hl | hl | hl <;> simp [hl]
  · rw [State.recordTx_txlen, State.recordTx_tx, BitVec.toNat_ofNat, Nat.mod_eq_of_lt (by omega)]
    exact Buf.zeroFrom_ofList hle
  · rw [State.recordTx_tx, Buf.toList_ofList hle, byteSum_padTo, hsum]

theorem State.RegistersSound.latchResponse {bs : List Byte} (hlen : bs.length ≤ 7)
    (hleft : s.attempts.toNat < s.params.maxAttempts.toNat) : (s.latchResponse bs).RegistersSound := by
  have hcount : (BitVec.ofNat 8 bs.length).toNat = bs.length := by simp; omega
  refine { h with attemptsBound := ?_, received := ?_ }
  · have := s.params.maxAttempts.isLt
    simp only [State.latchResponse_attempts, State.latchResponse_params]
    bv_omega
  · simp only [State.ReceivedZeroFilled, State.latchResponse_rxcnt, State.latchResponse_rx, hcount]
    exact ⟨hlen, Buf.zeroFrom_ofList hlen⟩

/-- A completion ends in a state of the invariant (R233). -/
theorem State.RegistersSound.complete_inv (c : ResultCode) : (s.complete c).Inv :=
  State.inv_iff.2 ⟨{ h with }, .inl ⟨rfl, rfl⟩⟩

/-- So does a request that completes at once (R193). -/
theorem State.RegistersSound.immediate_inv (hf : s.fsm = .idle) (hb : s.busy = false) (c : ResultCode) :
    (s.immediate c).Inv :=
  State.inv_iff.2 ⟨{ h with }, .inl ⟨hf, hb⟩⟩

/-- The start of an exchange for a word that fits it (R195). -/
theorem State.RegistersSound.startExchange_inv {p : Phase} (hd : s.done = false) (hfits : requestFits p s.req = true)
    (hp : p ≠ .inf) : (s.startExchange p).Inv := by
  refine State.inv_iff.2 ⟨?_, .inr ?_⟩
  · exact { h with
      attemptsBound := by simp, retriesBound := by simp, received := ⟨by simp, rfl⟩, sent := ⟨by simp, rfl, rfl⟩
      validBits := by simp [State.ValidBitsTrue] }
  · exact {
      running := by simp, busy := rfl, notDone := hd, fits := hfits, sendOnlySends := by simp
      attemptsLeft := by simp, noRetryYet := by simp, frameShown := by simp [State.SentFrameOfPhase]
      accepted := by simp [State.AcceptedInDecide], learned := fun hi => absurd hi hp }

end Registers

/-! ## The engine's steps keep the invariant -/

/-- A running engine that is past `TX` is not in a Send (R198). -/
theorem State.Exchanging.phase_ne_snd {s : State} (he : s.Exchanging) (hf : s.fsm ≠ .tx) : s.phase ≠ .snd :=
  fun hp => hf (he.sendOnlySends hp)

section Exchange

variable {s : State} (h : s.RegistersSound) (he : s.Exchanging)
include h he

/-- The TX step (R197). -/
theorem State.transmit_inv {frame : List Byte} (hfr : frameFor s.phase s.req = .ok frame) : (s.transmit frame).Inv := by
  have hsent := h.recordTx hfr
  rcases s.transmit_cases frame with ⟨-, e⟩ | ⟨hp, e⟩ <;> rw [e]
  · exact State.inv_iff.2 ⟨{ hsent with }, .inl ⟨rfl, rfl⟩⟩
  · have hpos : 0 < s.params.maxAttempts.toNat := by
      have := h.legal
      bv_omega
    refine State.inv_iff.2 ⟨{ hsent with attemptsBound := by simp }, .inr { he with
      running := by simp, sendOnlySends := fun hs => absurd hs hp, attemptsLeft := fun _ => hpos, frameShown := ?_
      accepted := by simp [State.AcceptedInDecide] }⟩
    simp [State.SentFrameOfPhase, hfr, Except.toOption, State.showsFrame]

/-- The READ step (R151). -/
theorem State.readStep_inv (hf : s.fsm = .read) : s.readStep.Inv := by
  have hleft := he.attemptsLeft (.inl hf)
  have hmax := s.params.maxAttempts.isLt
  have hattempts : (s.attempts + 1#8).toNat = s.attempts.toNat + 1 := by bv_omega
  have hnosend := he.phase_ne_snd (by simp [hf])
  have hframe := he.frameShown (.inl hf)
  have hlen := s.readBytes_length_le
  have hcount : (BitVec.ofNat 8 s.readBytes.length).toNat = s.readBytes.length := by simp; omega
  obtain ⟨ch, d, r, rfl, hc⟩ := s.readStep_cases
  have hsound := State.RegistersSound.latchResponse (s := { s with channel := ch, draws := d }) { h with } hlen hleft
  rcases hc with ⟨hm, e⟩ | ⟨-, -, e⟩ | ⟨-, ha, e⟩ <;> rw [e]
  · exact State.inv_iff.2 ⟨{ hsound with }, .inr { he with
      running := by simp, sendOnlySends := fun hs => absurd hs hnosend, attemptsLeft := by simp
      frameShown := fun _ => hframe
      accepted := fun _ => ⟨by simpa [hcount] using hm, by simp [hattempts]⟩ }⟩
  · exact hsound.complete_inv _
  · exact State.inv_iff.2 ⟨{ hsound with }, .inr { he with
      running := by simp, sendOnlySends := fun hs => absurd hs hnosend
      attemptsLeft := fun _ => Nat.lt_of_le_of_ne hsound.attemptsBound (mt BitVec.eq_of_toNat_eq ha)
      frameShown := fun _ => hframe, accepted := by simp [State.AcceptedInDecide] }⟩

/-- The SLEEP step (R154). -/
theorem State.sleepStep_inv (hf : s.fsm = .sleep) : s.sleepStep.Inv := by
  have hleft := he.attemptsLeft (.inr hf)
  have hnosend := he.phase_ne_snd (by simp [hf])
  exact State.inv_iff.2 ⟨{ h with }, .inr { he with
    running := by simp [State.sleepStep], sendOnlySends := fun hs => absurd hs hnosend, attemptsLeft := fun _ => hleft
    frameShown := fun _ => he.frameShown (.inr (.inl hf)), accepted := by simp [State.sleepStep, State.AcceptedInDecide] }⟩

/-- The DECIDE step on a Confirm in the Check part of an `INFO` (R202). -/
theorem State.confirmInfoCheck_inv (m : Word) (ho : reqOp s.req = opInfo) (hv : validChannel (reqArg s.req) = true) :
    (s.confirmInfoCheck m (reqArg s.req).toNat).Inv := by
  rcases s.confirmInfoCheck_cases m (reqArg s.req).toNat with ⟨hl, e⟩ | ⟨-, e⟩ <;> rw [e]
  · exact State.inv_iff.2 ⟨{ h.setMask m with }, .inr { he with
      running := by simp, fits := by simp [requestFits, ho, hv], sendOnlySends := fun _ => rfl, attemptsLeft := by simp
      noRetryYet := by simp, frameShown := by simp [State.SentFrameOfPhase]
      accepted := by simp [State.AcceptedInDecide], learned := fun _ => ⟨rfl, hl⟩ }⟩
  · exact (h.setMask m).complete_inv _

/-- The DECIDE step on a Confirm in place of an Ack (R204): the Info frame is sent again below the retry bound only. -/
theorem State.confirmInfoInfo_inv (m : Word) (hp : s.phase = .inf) :
    (s.confirmInfoInfo m (reqArg s.req).toNat).Inv := by
  rcases s.confirmInfoInfo_cases m (reqArg s.req).toNat with ⟨-, e⟩ | ⟨-, -, e⟩ | ⟨hl, hr, e⟩ <;> rw [e]
  · exact (h.setMask m).complete_inv _
  · exact (h.setMask m).complete_inv _
  · have hretries : (s.retries + 1#8).toNat ≤ s.params.infoRetryMax.toNat := by
      have := h.retriesBound
      bv_omega
    exact State.inv_iff.2 ⟨{ h.setMask m with retriesBound := hretries }, .inr { he with
      running := by simp, sendOnlySends := fun _ => rfl, attemptsLeft := by simp
      noRetryYet := by simp [hp], frameShown := by simp [State.SentFrameOfPhase]
      accepted := by simp [State.AcceptedInDecide], learned := fun _ => ⟨rfl, hl⟩ }⟩

/-- The DECIDE step on a Confirm (R200). -/
theorem decideConfirm_inv {m : Word} {t : State} (hd : decideConfirm m s = .next t) : t.Inv := by
  rcases decideConfirm_next hd with ⟨-, -, rfl⟩ | ⟨-, ho, hv, rfl⟩ | ⟨hp, -, -, rfl⟩
  · exact (h.setMask m).complete_inv _
  · exact State.confirmInfoCheck_inv h he m ho hv
  · exact State.confirmInfoInfo_inv h he m hp

end Exchange

/-- The DECIDE step on any other response completes the request (R203, R205, R207). -/
theorem decideOther_inv {s t : State} (h : s.RegistersSound) {p : Prop} [Decidable p] {st : Byte}
    (hd : decideOther (fun s' => if p then (s'.setAck st).complete .ok else s'.complete .invalidResponse) s = .next t) :
    t.Inv := by
  rcases decideOther_next hd with ⟨-, rfl⟩ | ⟨-, -, rfl⟩
  · exact h.complete_inv _
  · split
    · exact (h.setAck st).complete_inv _
    · exact h.complete_inv _

/-! ## The other turns keep the invariant -/

/-- The write of a request word (R192 to R196). -/
theorem requestEffect_inv {s : State} (hi : s.Inv) (w : Word) : (requestEffect w s).Inv := by
  obtain ⟨h, ⟨hf, hb⟩ | he⟩ := State.inv_iff.1 hi
  · obtain ⟨a, ha, hc⟩ := requestEffect_idle hb w
    have haccepted : a.RegistersSound := by rw [ha]; exact { h with }
    subst ha
    rcases hc with ⟨p, hfits, hp, e⟩ | ⟨c, e⟩ | ⟨-, acc, e⟩ <;> rw [e]
    · exact haccepted.startExchange_inv rfl hfits hp
    · exact haccepted.immediate_inv hf hb c
    · exact haccepted.immediate_inv hf hb .ok
  · rw [requestEffect_busy he.busy]
    exact hi

/-- A reset (R260 to R262). -/
theorem State.applyReset_inv {s : State} (h : s.params.Legal) : s.applyReset.Inv :=
  State.inv_iff.2 ⟨{
    legal := h, notStaged := rfl, attemptsBound := Nat.zero_le _, retriesBound := Nat.zero_le _
    received := ⟨Nat.zero_le _, rfl⟩, sent := ⟨.inl rfl, rfl, rfl⟩
    validBits := ⟨fun _ => rfl, fun _ => ⟨rfl, rfl⟩, nofun⟩ }, .inl ⟨rfl, rfl⟩⟩

/-- A turn of the running engine. -/
theorem engine_step_inv {s t : State} (hi : s.Inv) (ht : s.turn = .engine) (hf : s.fsm ≠ .idle)
    (hstep : step s = .next t) : t.Inv := by
  obtain ⟨hs, hrun⟩ := State.inv_iff.1 hi
  have hx := hrun.resolve_left fun hidle => hf hidle.1
  obtain ⟨a, ha, hc⟩ := step_cases hs.notStaged hstep
  have h : a.RegistersSound := by rw [ha]; exact { hs with }
  have he : a.Exchanging := by rw [ha]; exact { hx with }
  subst ha
  rcases hc with ⟨-, hidle, -⟩ | ⟨-, -, frame, hfr, rfl⟩ | ⟨-, hread, rfl⟩ | ⟨-, hsleep, rfl⟩ |
    ⟨-, -, -, ⟨-, hd⟩ | ⟨-, hd⟩⟩ | ⟨i, hturn, -⟩ | ⟨w, hturn, -⟩ | ⟨i, w, hturn, -⟩ | ⟨hturn, -⟩ | ⟨hturn, -⟩ |
    ⟨addr, hturn | ⟨v, hturn⟩, -⟩
  · exact absurd hidle hf
  · exact State.transmit_inv h he hfr
  · exact State.readStep_inv h he hread
  · exact State.sleepStep_inv h he hsleep
  · exact decideConfirm_inv h he hd
  · exact decideOther_inv h hd
  all_goals exact absurd (ht.symm.trans hturn) (by simp)

/-- Settles O54: the running engine by the step of its state, every other turn by the operation it runs. -/
theorem invariantIsKept : Obligations.InvariantIsKept := by
  intro s t hi hstep
  rcases step_turn_cases (State.inv_iff.1 hi).1.notStaged hstep with ⟨ht, hf⟩ | ⟨w, -, rfl⟩ | ⟨-, rfl⟩ | ⟨_, _, rfl⟩
  · exact engine_step_inv hi ht hf hstep
  · exact requestEffect_inv (s := { s with agenda := s.agenda.tail }) hi w
  · exact State.applyReset_inv (State.inv_iff.1 hi).1.legal
  · exact hi

end Machine
end Sys2Proof

/-! What single steps do to the registers of this family: the accumulator, the held request, the completion flag. -/

namespace Sys2Proof.Machine

/-- Settles O15: no turn but the write of a request word and the reset reaches `CKS_ACC`. -/
theorem onlyChecksumRequestsChangeCks : Obligations.OnlyChecksumRequestsChangeCks := by
  intro s t hs hstep hne
  rcases step_turn_cases hs hstep with ⟨ht, -⟩ | ⟨w, ht, rfl⟩ | ⟨ht, -⟩ | ⟨_, _, rfl⟩
  · obtain ⟨-, hcks, -⟩ := engine_step_frame hs ht hstep
    exact absurd hcks hne
  · obtain ⟨hb, hop⟩ := requestEffect_cksAcc_ne (s := { s with agenda := s.agenda.tail }) hne
    exact .inr ⟨hb, w, ht, hop⟩
  · exact .inl ht
  · exact absurd rfl hne

/-- Settles O57: the engine never writes `REQ`, and a word written while it is busy is dropped. -/
theorem requestIsHeldWhileBusy : Obligations.RequestIsHeldWhileBusy := by
  intro s t hs hbusy hreset hstep
  rcases step_turn_cases hs hstep with ⟨ht, -⟩ | ⟨w, -, rfl⟩ | ⟨ht, -⟩ | ⟨_, _, rfl⟩
  · exact (engine_step_frame hs ht hstep).1
  · exact requestEffect_busy_req (s := { s with agenda := s.agenda.tail }) hbusy w
  · exact absurd ht hreset
  · rfl

/-- In a state of the invariant `DONE` = 1 only while the engine rests. -/
theorem State.Inv.rests_of_done {s : State} (hi : s.Inv) (hd : s.done = true) : s.fsm = .idle ∧ s.busy = false := by
  obtain ⟨-, hrests | he⟩ := State.inv_iff.1 hi
  · exact hrests
  · exact absurd (hd.symm.trans he.notDone) (by simp)

/-- Settles O58: by O54 the engine rests wherever `DONE` is 1, before the step or after it; what is left is whose turn
it was. -/
theorem doneFollowsCompletion : Obligations.DoneFollowsCompletion := by
  intro s t hi hstep
  have hturns := step_turn_cases (State.inv_iff.1 hi).1.notStaged hstep
  constructor
  · intro hs ht
    obtain ⟨hidle, hfree⟩ := (invariantIsKept s t hi hstep).rests_of_done ht
    refine ⟨hidle, hfree, ?_⟩
    rcases hturns with hengine | ⟨w, hw, -⟩ | ⟨-, rfl⟩ | ⟨_, _, rfl⟩
    · exact .inl hengine
    · exact .inr ⟨w, hw⟩
    · exact absurd ht (by simp [State.applyReset, State.reset])
    · exact absurd (hs.symm.trans ht) (by simp)
  · intro hs ht
    obtain ⟨hidle, hfree⟩ := hi.rests_of_done hs
    rcases hturns with ⟨-, hruns⟩ | ⟨w, hw, rfl⟩ | ⟨hreset, -⟩ | ⟨_, _, rfl⟩
    · exact absurd hidle hruns
    · exact .inr ⟨hfree, w, hw, requestEffect_idle_req (s := { s with agenda := s.agenda.tail }) hfree w⟩
    · exact .inl hreset
    · exact absurd (hs.symm.trans ht) (by simp)

end Sys2Proof.Machine

/-! The start of an exchange, the bytes of a long answer, and the register map with the host's accesses by address. -/

namespace Sys2Proof.Machine

/-! ## The start of an exchange -/

section Start

variable {f : ReqFields} {s : State} (hb : s.busy = false)
include hb

theorem exec_check_idle :
    exec (.check f) s =
      .next (State.startExchange .chk { s with req := encodeRequest opCheck f, done := false, rej := false }) := by
  rw [exec, execCheck, State.accept_idle hb]

theorem exec_send_idle (hv : validChannel f.arg = true) (ha : f.action.toNat ≤ 4) :
    exec (.send f) s =
      .next (State.startExchange .snd { s with req := encodeRequest opSend f, done := false, rej := false }) := by
  rw [exec, execSend, State.accept_idle hb]
  simp [hv, ha]

theorem exec_info_idle (hv : validChannel f.arg = true) :
    exec (.info f) s =
      .next (State.startExchange .chk { s with req := encodeRequest opInfo f, done := false, rej := false }) := by
  rw [exec, execInfo, State.accept_idle hb]
  simp [hv]

end Start

/-- Settles O25: acceptance and `startExchange` overwrite every result register but `RESULT`. -/
theorem startIgnoresEarlierResults : Obligations.StartIgnoresEarlierResults := by
  intro f s m mv av kn dn rj st a r n k rx tx hb hlow hhigh ha s'
  have hv : validChannel f.arg = true := (validChannel_iff _).2 ⟨hlow, hhigh⟩
  have hb' : s'.busy = false := hb
  refine ⟨?_, ?_, ?_⟩
  · rw [exec_check_idle hb, exec_check_idle hb']
    rfl
  · rw [exec_send_idle hb hv ha, exec_send_idle hb' hv ha]
    rfl
  · rw [exec_info_idle hb hv, exec_info_idle hb' hv]
    rfl

/-! ## A long answer -/

/-- The engine's turn in `READ` is one read attempt (R191). -/
theorem step_read {s : State} (ht : s.turn = .engine) (hf : s.fsm = .read) :
    step s = .next (State.readStep { s with agenda := s.agenda.tail }) := by
  simp [step, fetch, quiet, engineQuiet, ht, hf]

/-- What a read attempt returns and leaves when the channel's next answer is listed (R66; log 4). -/
theorem State.readBytes_of_bytes {s : State} {bs : List Byte} {rest : List Answer} (h : s.channel = .bytes bs :: rest) :
    s.readBytes = bs.take 7 := by
  simp [State.readBytes, State.nextAnswer, h, Answer.bytesGiven, respLen]

theorem State.consumeRead_channel_of_long {s : State} {bs : List Byte} {rest : List Answer}
    (h : s.channel = .bytes bs :: rest) (hlong : 7 < bs.length) :
    s.consumeRead.channel = .bytes (bs.drop 7) :: rest := by
  obtain ⟨b, later, hdrop⟩ := List.exists_cons_of_length_pos (l := bs.drop 7) (by simpa using hlong)
  simp [State.consumeRead, State.nextAnswer, State.takeAnswer, h, Answer.bytesGiven, respLen, hdrop]

/-- What follows a read attempt leaves the channel and the serial events alone. -/
@[simp] theorem State.afterRead_channel (n : Nat) (s : State) : (s.afterRead n).channel = s.channel := by
  unfold State.afterRead
  split_ifs <;> simp

@[simp] theorem State.afterRead_trace (n : Nat) (s : State) : (s.afterRead n).trace = s.trace := by
  unfold State.afterRead
  split_ifs <;> simp

theorem State.readStep_channel (s : State) : s.readStep.channel = s.consumeRead.channel := by
  simp [State.readStep]

theorem State.readStep_trace (s : State) : s.readStep.trace = s.trace ++ [.read s.readBytes] := by
  obtain ⟨ch, d, e⟩ := s.consumeRead_only_channel
  simp [State.readStep, e]

/-- Settles O32: the answer is cut after its seventh byte. -/
theorem longAnswerStaysInChannel : Obligations.LongAnswerStaysInChannel := by
  intro s t bs rest ht hf hch hlong hstep
  rw [step_read ht hf] at hstep
  cases hstep
  have hch' : ({ s with agenda := s.agenda.tail } : State).channel = .bytes bs :: rest := hch
  refine ⟨bs.take 7, bs.drop 7, (List.take_append_drop 7 bs).symm, by simp; omega, ?_, ?_⟩
  · rw [State.readStep_trace, State.readBytes_of_bytes hch']
  · rw [State.readStep_channel, State.consumeRead_channel_of_long hch' hlong]

/-! ## The register map -/

/-- The low byte of `STATUS` as a number (R23). -/
theorem statusFlags_toNat (av mv rj dn bz : Bool) :
    (((BitVec.ofBool av).setWidth 8 <<< 4) ||| ((BitVec.ofBool mv).setWidth 8 <<< 3)
      ||| ((BitVec.ofBool rj).setWidth 8 <<< 2) ||| ((BitVec.ofBool dn).setWidth 8 <<< 1)
      ||| (BitVec.ofBool bz).setWidth 8 : Byte).toNat
      = av.toNat * 16 + mv.toNat * 8 + rj.toNat * 4 + dn.toNat * 2 + bz.toNat := by
  revert av mv rj dn bz
  decide

theorem State.statusWord_toNat (s : State) :
    s.statusWord.toNat = s.result.toByte.toNat * 256 + s.ackValid.toNat * 16 + s.maskValid.toNat * 8
      + s.rej.toNat * 4 + s.done.toNat * 2 + s.busy.toNat := by
  rw [State.statusWord, wordOfBytes_toNat, statusFlags_toNat]
  omega

/-- `ACKST` as a number (R26). -/
theorem State.ackst_toNat (s : State) : (s.regRead 0x03#5).toNat = s.known.toNat * 256 + s.devstat.toNat := by
  have hread : s.regRead 0x03#5 = wordOfBytes ((BitVec.ofBool s.known).setWidth 8) s.devstat := rfl
  rw [hread, wordOfBytes_toNat]
  cases s.known <;> rfl

/-- `CKS` as a number: the accumulator and its checksum (R27). -/
theorem State.cks_toNat (s : State) :
    (s.regRead 0x04#5).toNat = s.cksAcc.toNat * 256 + (256 - s.cksAcc.toNat) % 256 := by
  have hread : s.regRead 0x04#5 = wordOfBytes s.cksAcc s.cksOut := rfl
  rw [hread, wordOfBytes_toNat]
  simp [State.cksOut]

/-- `RX0`..`RX6` stand at 0x08 to 0x0E (R34). -/
theorem State.regRead_rx (s : State) {k : Nat} (hk : k < 7) :
    s.regRead (BitVec.ofNat 5 (0x08 + k)) = (s.rx.toList.getD k 0#8).setWidth 16 := by
  interval_cases k <;> rfl

/-- `TX0`..`TX6` stand at 0x10 to 0x16 (R34). -/
theorem State.regRead_tx (s : State) {k : Nat} (hk : k < 7) :
    s.regRead (BitVec.ofNat 5 (0x10 + k)) = (s.tx.toList.getD k 0#8).setWidth 16 := by
  interval_cases k <;> rfl

/-- The reserved registers read 0 (R33). -/
theorem State.regRead_reserved (s : State) {i : RegIndex} (hi : 0x17 ≤ i.toNat) : s.regRead i = 0#16 := by
  unfold State.regRead
  split
  case h_23 => rfl
  all_goals omega

/-! ## Steps of the host -/

/-- A host's read records the register and nothing else (R61). -/
theorem step_hostRead {s : State} {i : RegIndex} (h : s.turn = .hostRead i) :
    step s = .next (State.recordRead i { s with agenda := s.agenda.tail }) := by
  simp [step, fetch, quiet, h]

/-- A host's write runs a request word at `REQ` and is ignored elsewhere (R62). -/
theorem step_hostWrite {s : State} {i : RegIndex} {v : Word} (h : s.turn = .hostWrite i v) :
    step s = .next (if i = 0#5 then requestEffect v (advance s) else { s with agenda := s.agenda.tail }) := by
  by_cases hi : i = 0#5 <;> simp [step, fetch, quiet, h, hi, decode, exec_decodeRequest]

/-- An access outside the register block only uses up its turn (R71; log 21). -/
theorem step_outside_block {s : State} {addr : Nat} {v : Word}
    (h : s.turn = .hostLoad addr ∨ s.turn = .hostStore addr v) :
    step s = .next { s with agenda := s.agenda.tail } := by
  rcases h with h | h <;> simp [step, fetch, quiet, h]

/-- A turn at the head of the agenda is next, with its address resolved. -/
theorem State.turn_of_agenda {s : State} {turn : Turn} {rest : List Turn} (h : s.agenda = turn :: rest) :
    s.turn = turn.resolve s.params := by
  simp [State.turn, h]

/-- The host's read at the base plus an index (R71). -/
theorem step_hostLoad_in_block {s : State} {i : RegIndex} {rest : List Turn}
    (h : s.agenda = .hostLoad (s.params.address i) :: rest) :
    step s = .next { s with agenda := rest, hostReads := s.hostReads ++ [(i, s.regRead i)] } := by
  rw [step_hostRead ((State.turn_of_agenda h).trans (Turn.resolve_load _ _)), h]
  rfl

/-- The host's write at the base plus an index is the write of that register (R71). -/
theorem step_hostStore_in_block {s : State} {i : RegIndex} {v : Word} {rest : List Turn}
    (h : s.agenda = .hostStore (s.params.address i) v :: rest) :
    step s = step { s with agenda := .hostWrite i v :: rest } := by
  have hstore : s.turn = .hostWrite i v := (State.turn_of_agenda h).trans (Turn.resolve_store _ _ _)
  have hwrite : ({ s with agenda := .hostWrite i v :: rest } : State).turn = .hostWrite i v := rfl
  rw [step_hostWrite hstore, step_hostWrite hwrite]
  simp [advance, h]

/-- The host's access of an address outside the block (R71). -/
theorem step_host_outside_block {s : State} {addr : Nat} {v : Word} {rest : List Turn}
    (haddr : addr < s.params.registerBase ∨ s.params.registerBase + 32 ≤ addr)
    (h : s.agenda = .hostLoad addr :: rest ∨ s.agenda = .hostStore addr v :: rest) :
    step s = .next { s with agenda := rest } := by
  have hnone := Params.registerAt_outside haddr
  have htail : s.agenda.tail = rest := by rcases h with h | h <;> rw [h] <;> rfl
  have hturn : s.turn = .hostLoad addr ∨ s.turn = .hostStore addr v :=
    h.imp (fun h => by simp [State.turn_of_agenda h, Turn.resolve, hnone])
      (fun h => by simp [State.turn_of_agenda h, Turn.resolve, hnone])
  rw [step_outside_block hturn, htail]

/-- Settles O47: each register by the map of R34, the host's accesses by the turn its address resolves to. -/
theorem registerMap : Obligations.RegisterMap := by
  intro s
  have hbyte (b : Byte) : (b.setWidth 16).toNat = b.toNat := BitVec.toNat_setWidth_of_le (by decide)
  refine ⟨rfl, s.statusWord_toNat, rfl, s.ackst_toNat, s.cks_toNat, wordOfBytes_toNat _ _, hbyte _, hbyte _, ?_, ?_,
    rfl, fun i => s.regRead_reserved, fun i rest => step_hostLoad_in_block, fun i v rest => step_hostStore_in_block,
    fun addr v rest => step_host_outside_block⟩
  · intro k hk
    rw [s.regRead_rx hk, hbyte]
  · intro k hk
    rw [s.regRead_tx hk, hbyte]

end Sys2Proof.Machine

/-! The host's accesses of single registers, the instruction a step runs, and the serial events of a step. -/

namespace Sys2Proof.Machine

/-! ## Host accesses of single registers -/

/-- What the host's reads returned is in no register. -/
@[simp] theorem State.regRead_recordRead (s : State) (i j : RegIndex) :
    (s.recordRead i).regRead j = s.regRead j := rfl

/-- Settles O48: a read turn is `recordRead` on the state with its turn used up. -/
theorem hostReadHasNoSideEffect : Obligations.HostReadHasNoSideEffect := by
  intro s i ht
  exact ⟨_, step_hostRead ht, rfl, State.regRead_recordRead _ i⟩

/-- Settles O49: only index 0 is a request (`step_hostWrite`). -/
theorem otherRegisterWritesAreIgnored : Obligations.OtherRegisterWritesAreIgnored := by
  intro s i v hi ht
  rw [step_hostWrite ht, if_neg hi]

/-! ## The instruction a step runs -/

/-- Where no frame is staged, `advance` only uses up the turn. -/
theorem advance_of_not_staged {s : State} (hs : s.staged = none) :
    advance s = { s with agenda := s.agenda.tail } := by
  simp [advance, hs]

/-- A step whose fetched code decodes runs that instruction with the turn used up. -/
theorem step_of_fetch {s : State} {c : Code} {i : Instr} (hs : s.staged = none) (hf : fetch s = .code c)
    (hd : decode c = .ok i) : step s = exec i { s with agenda := s.agenda.tail } := by
  simp only [step, hf, hd, advance_of_not_staged hs]

theorem fetch_request {s : State} {w : Word} (ht : s.turn = .hostWrite 0#5 w) : fetch s = .code (.request w) := by
  simp [fetch, ht]

theorem fetch_frame {s : State} {frame : List Byte} (hs : s.staged = none) (ht : s.turn = .engine) (hf : s.fsm = .tx)
    (hfr : frameFor s.phase s.req = .ok frame) : fetch s = .code (.wireOut frame) := by
  simp [fetch, ht, hf, State.txFrame, hs, hfr]

theorem fetch_response {s : State} (ht : s.turn = .engine) (hf : s.fsm = .decide) :
    fetch s = .code (.wireIn s.rx.toList) := by
  simp [fetch, ht, hf]

/-- Settles O7: each port's code is what `fetch` gives, and `step_of_fetch` runs it. -/
theorem stepRunsDecodedInstruction : Obligations.StepRunsDecodedInstruction := by
  intro s i hs
  exact ⟨fun w ht => step_of_fetch hs (fetch_request ht),
    fun frame ht hf hfr => step_of_fetch hs (fetch_frame hs ht hf hfr),
    fun ht hf => step_of_fetch hs (fetch_response ht hf)⟩

/-! ## One read attempt -/

/-- A read attempt shows the bytes it returned, counts them, and is accepted exactly when they begin with the marker
(R151, R152). -/
theorem State.readStep_shows (s : State) :
    s.readStep.rx = Buf.ofList s.readBytes ∧ s.readStep.rxcnt.toNat = s.readBytes.length ∧
    (s.readStep.fsm = .decide ↔ s.readBytes.head? = some startMarker) := by
  have hlen := s.readBytes_length_le
  have hcount : (BitVec.ofNat 8 s.readBytes.length).toNat = s.readBytes.length := by simp; omega
  obtain ⟨ch, d, r, rfl, hc⟩ := s.readStep_cases
  rw [← markerOk_ofList]
  rw [State.latchResponse_rx] at hc
  rcases hc with ⟨hm, e⟩ | ⟨hm, -, e⟩ | ⟨hm, -, e⟩ <;> rw [e] <;> exact ⟨rfl, hcount, by simp [hm]⟩

/-- Settles O31: whatever the next answer is, the step is one read attempt on its at most seven bytes. -/
theorem everyAnswerIsRead : Obligations.EveryAnswerIsRead := by
  intro s ht hf
  obtain ⟨hrx, hcount, haccepted⟩ := State.readStep_shows { s with agenda := s.agenda.tail }
  exact ⟨_, _, step_read ht hf, State.readBytes_length_le _, hrx, hcount, State.readStep_trace _, haccepted⟩

/-! ## Serial events -/

/-- The write of a request word is no serial event. -/
@[simp] theorem requestEffect_trace (w : Word) (s : State) : (requestEffect w s).trace = s.trace := by
  cases hb : s.busy with
  | true => rw [requestEffect_busy hb]
  | false => obtain ⟨a, rfl, ⟨p, -, -, e⟩ | ⟨c, e⟩ | ⟨-, acc, e⟩⟩ := requestEffect_idle hb w <;> rw [e] <;> rfl

/-- The TX step is the write of its frame (R65, R197). -/
theorem State.transmit_trace (frame : List Byte) (s : State) : (s.transmit frame).trace = s.trace ++ [.write frame] := by
  rcases s.transmit_cases frame with ⟨-, e⟩ | ⟨-, e⟩ <;> rw [e]

/-- The DECIDE step is no serial event: a Confirm's. -/
theorem decideConfirm_trace {m : Word} {s t : State} (h : decideConfirm m s = .next t) : t.trace = s.trace := by
  rcases decideConfirm_next h with ⟨-, -, rfl⟩ | ⟨-, -, -, rfl⟩ | ⟨-, -, -, rfl⟩
  · rfl
  · rcases s.confirmInfoCheck_cases m _ with ⟨-, e⟩ | ⟨-, e⟩ <;> rw [e] <;> rfl
  · rcases s.confirmInfoInfo_cases m _ with ⟨-, e⟩ | ⟨-, -, e⟩ | ⟨-, -, e⟩ <;> rw [e] <;> rfl

/-- The DECIDE step is no serial event: any other response's. -/
theorem decideOther_trace {k : State → State} {s t : State} (hk : ∀ a, (k a).trace = a.trace)
    (h : decideOther k s = .next t) : t.trace = s.trace := by
  rcases decideOther_next h with ⟨-, rfl⟩ | ⟨-, -, rfl⟩
  · rfl
  · exact hk s

/-- Settles O59: of the turns of `step_cases`, only the TX and the READ step reach the serial events. -/
theorem serialEventsAreTheEngines : Obligations.SerialEventsAreTheEngines := by
  intro s t hs hstep
  obtain ⟨a, rfl, ⟨-, -, rfl⟩ | ⟨ht, hf, frame, hfr, rfl⟩ | ⟨ht, hf, rfl⟩ | ⟨-, -, rfl⟩ |
    ⟨-, -, -, ⟨-, hconfirm⟩ | ⟨-, hother⟩⟩ | ⟨i, -, rfl⟩ | ⟨w, -, rfl⟩ | ⟨i, w, -, -, rfl⟩ | ⟨-, rfl⟩ | ⟨-, rfl⟩ |
    ⟨addr, -, rfl⟩⟩ := step_cases hs hstep
  · exact .inl rfl
  · exact .inr (.inl ⟨ht, hf, frame, hfr, State.transmit_trace frame _⟩)
  · exact .inr (.inr ⟨ht, hf, _, State.readBytes_length_le _, State.readStep_trace _⟩)
  · exact .inl rfl
  · left
    rw [decideConfirm_trace hconfirm]
  · left
    rw [decideOther_trace (fun a => by split_ifs <;> rfl) hother]
  · exact .inl rfl
  · exact .inl (requestEffect_trace w _)
  iterate 4 exact .inl rfl

end Sys2Proof.Machine

/-! The encoding: every instruction round-trips both ways, the fields of a request word are its digits, and the frames
of the Frame Builder are well-formed outbound instructions. -/

namespace Sys2Proof

/-! ## Instructions and request words -/

/-- Settles O2: the family `RoundTrip`, row by row. -/
theorem decodeInvertsEncode : Obligations.DecodeInvertsEncode := by
  intro i h
  cases i with
  | check f => exact Laws.RoundTrip.check f h
  | send f => exact Laws.RoundTrip.send f h
  | info f => exact Laws.RoundTrip.info f h
  | cksclr f => exact Laws.RoundTrip.cksclr f h
  | cksadd f => exact Laws.RoundTrip.cksadd f h
  | reservedOp000 f => exact Laws.RoundTrip.reservedOp000 f h
  | reservedOp110 f => exact Laws.RoundTrip.reservedOp110 f h
  | reservedOp111 f => exact Laws.RoundTrip.reservedOp111 f h
  | frameCheck cs => exact Laws.RoundTrip.frameCheck cs h
  | frameSend hi lo key cs => exact Laws.RoundTrip.frameSend hi lo key cs h
  | frameInfo hi lo cs => exact Laws.RoundTrip.frameInfo hi lo cs h
  | respConfirm len mh ml b5 b6 => exact Laws.RoundTrip.respConfirm len mh ml b5 b6 h
  | respAck len b3 b4 st b6 => exact Laws.RoundTrip.respAck len b3 b4 st b6 h
  | respOther len code b3 b4 b5 b6 => exact Laws.RoundTrip.respOther len code b3 b4 b5 b6 h

/-- A word is the encoding of its fields under its `OP` (R80). -/
theorem request_encodeRequest_of_op {w : Word} {op : BitVec 3} (h : reqOp w = op) :
    Code.request (encodeRequest op (decodeFields w)) = .request w := by
  rw [← h, encodeRequest_decodeFields]

/-- Settles O4: the encoding of a word's fields under its `OP` decodes to the row of that `OP`. -/
theorem requestWordFields : Obligations.RequestWordFields := by
  intro w f
  have hrow {op : BitVec 3} {i : Instr} (hi : decode (.request (encodeRequest op f)) = .ok i)
      (hop : reqOp w = op) : decode (.request w) = .ok i :=
    request_encodeRequest_of_op hop ▸ hi
  exact ⟨hrow (Laws.RoundTrip.reservedOp000 f rfl), hrow (Laws.RoundTrip.check f rfl),
    hrow (Laws.RoundTrip.send f rfl), hrow (Laws.RoundTrip.info f rfl), hrow (Laws.RoundTrip.cksclr f rfl),
    hrow (Laws.RoundTrip.cksadd f rfl), hrow (Laws.RoundTrip.reservedOp110 f rfl),
    hrow (Laws.RoundTrip.reservedOp111 f rfl)⟩

/-- Every request word is the encoding of what it decodes to (R81, R85). -/
theorem encode_decodeRequest (w : Word) : encode (decodeRequest w) = .request w := by
  have hlt : (reqOp w).toNat < 8 := (reqOp w).isLt
  unfold decodeRequest
  interval_cases hop : (reqOp w).toNat <;> exact request_encodeRequest_of_op (BitVec.eq_of_toNat_eq hop)

/-! ## Frames and response buffers -/

/-- An outbound frame is the encoding of what it decodes to: offsets 0 to 2 are those of its row (R89 to R91). -/
theorem encode_of_decodeFrame {frame : List Byte} {i : Instr} (h : decodeFrame frame = .ok i) :
    encode i = .wireOut frame := by
  unfold decodeFrame at h
  split at h
  · split_ifs at h with hmarker hcheck hlen hsend hlen hinfo hlen
    iterate 3
      split at h
      · cases h
        simp_all [encode]
      · cases h
  · cases h

/-- A buffer that decodes has seven bytes and begins with the marker (R92, R152). -/
theorem decodeResponse_shape {buf : List Byte} {i : Instr} (h : decodeResponse buf = .ok i) :
    ∃ len code b3 b4 b5 b6, buf = [startMarker, len, code, b3, b4, b5, b6] := by
  unfold decodeResponse at h
  split at h
  · rename_i marker len code b3 b4 b5 b6
    by_cases hm : marker = startMarker
    · exact ⟨len, code, b3, b4, b5, b6, by rw [hm]⟩
    · rw [if_pos hm] at h
      cases h
  · cases h

/-- A response buffer is the encoding of what it decodes to (R94). -/
theorem encode_of_decodeResponse {buf : List Byte} {i : Instr} (h : decodeResponse buf = .ok i) :
    encode i = .wireIn buf := by
  obtain ⟨len, code, b3, b4, b5, b6, rfl⟩ := decodeResponse_shape h
  rw [decodeResponse_marker] at h
  split_ifs at h with hconfirm hack
  · cases h
    rw [hconfirm]
    rfl
  · cases h
    rw [hack]
    rfl
  · cases h
    rfl

/-- Settles O3: port by port. -/
theorem encodeInvertsDecode : Obligations.EncodeInvertsDecode := by
  intro c i h
  cases c with
  | request w =>
    cases h
    exact encode_decodeRequest w
  | wireOut frame => exact encode_of_decodeFrame h
  | wireIn buf => exact encode_of_decodeResponse h

/-- Settles O1: the request words by evaluation, the frames and the buffers that begin with the marker by the
decoder's equations. -/
theorem sampleWordsDecode : Obligations.SampleWordsDecode :=
  ⟨rfl, rfl, rfl, rfl, rfl, rfl, rfl, decodeFrame_check _, decodeFrame_send _ _ _ _, decodeFrame_info _ _ _,
    Laws.RoundTrip.respConfirm _ _ _ _ _ rfl, Laws.RoundTrip.respAck _ _ _ _ _ rfl,
    Laws.RoundTrip.respOther _ _ _ _ _ _ rfl, rfl⟩

/-! ## The words of the assembler -/

/-- A request word as a number: its fields are its digits (R80). -/
theorem word_toNat_fields (w : Word) :
    w.toNat = (reqArg w).toNat * 256 + (reqVerbose w).toNat * 128 + (reqAction w).toNat * 16 + (reqRsv w).toNat * 8
      + (reqOp w).toNat := by
  have hbit (k : Nat) : (w.getLsbD k).toNat = w.toNat / 2 ^ k % 2 := by
    rw [BitVec.getLsbD, Nat.toNat_testBit]
  have hlt := w.isLt
  simp only [reqArg, reqVerbose, reqAction, reqRsv, reqOp, hbit, BitVec.extractLsb'_toNat, Nat.shiftRight_eq_div_pow]
  omega

theorem encodeRequest_toNat (op : BitVec 3) (f : ReqFields) :
    (encodeRequest op f).toNat =
      f.arg.toNat * 256 + f.verbose.toNat * 128 + f.action.toNat * 16 + f.rsv.toNat * 8 + op.toNat := by
  rw [word_toNat_fields, reqArg_encodeRequest, reqVerbose_encodeRequest, reqAction_encodeRequest, reqRsv_encodeRequest,
    reqOp_encodeRequest]

end Sys2Proof

namespace Sys2Proof.Machine

/-- Settles O6: each line is `encodeRequest` of its fields, and a channel 1..16 fits `ARG`. -/
theorem assembledWords : Obligations.AssembledWords := by
  have harg {ch : Nat} (hhigh : ch ≤ 16) : ch % 256 = ch := Nat.mod_eq_of_lt (by omega)
  refine ⟨fun v => ?_, fun ch a v hlow hhigh => ?_, fun ch v hlow hhigh => ?_, rfl, fun b => ?_, fun ch a v hch => ?_⟩
  · simp [AsmRequest.toWord, encodeRequest_toNat, opCheck, Nat.add_comm]
  · simp [AsmRequest.toWord, encodeRequest_toNat, opSend, hlow, hhigh, harg hhigh]
  · simp [AsmRequest.toWord, encodeRequest_toNat, opInfo, hlow, hhigh, harg hhigh]
  · simp [AsmRequest.toWord, encodeRequest_toNat, opCksadd]
  · have hbad : ¬(1 ≤ ch ∧ ch ≤ 16) := by omega
    exact ⟨if_neg hbad, if_neg hbad⟩

/-! ## The frames of the Frame Builder -/

/-- The mask bytes `chan_to_mask` gives are a channel's (R130). -/
theorem isChannelMask_of_chanToMask {c : Nat} {hi lo : Byte} (h : chanToMask c = some (hi, lo)) :
    isChannelMask hi lo = true := by
  have hc : 1 ≤ c ∧ c ≤ 16 := by
    unfold chanToMask at h
    split_ifs at h <;> omega
  simp only [isChannelMask, List.any_eq_true, List.mem_range, beq_iff_eq]
  exact ⟨c - 1, by omega, by rwa [Nat.sub_add_cancel hc.1]⟩

/-- The key code of an `ACTION` field is an action's (R83). -/
theorem isKey_of_keyOfField {a : BitVec 3} {key : Byte} (h : keyOfField a = some key) : isKey key = true := by
  obtain ⟨action, -, rfl⟩ := Option.map_eq_some_iff.1 h
  cases action <;> rfl

/-- Settles O5: the frame's row by its phase; its mask and key are the builder's, its checksum is `withChecksum`'s. -/
theorem builderFramesAreWellFormed : Obligations.BuilderFramesAreWellFormed := by
  intro p w frame h
  rcases frameFor_bytes h with ⟨-, rfl⟩ | ⟨-, hi, lo, key, hmask, hkey, rfl⟩ | ⟨-, hi, lo, hmask, rfl⟩
  · exact ⟨_, decodeFrame_check _, beq_self_eq_true _, rfl⟩
  · exact ⟨_, decodeFrame_send hi lo key _, by
      simp [Instr.wellFormed, isChannelMask_of_chanToMask hmask, isKey_of_keyOfField hkey], rfl⟩
  · exact ⟨_, decodeFrame_info hi lo _, by simp [Instr.wellFormed, isChannelMask_of_chanToMask hmask], rfl⟩

/-- Settles O19: offsets 0 and 1 by the frame's phase, the sum by `withChecksum`. -/
theorem builtFramesAreFramed : Obligations.BuiltFramesAreFramed := by
  intro p w frame h
  rcases frameFor_bytes h with ⟨-, rfl⟩ | ⟨-, hi, lo, key, -, -, rfl⟩ | ⟨-, hi, lo, -, rfl⟩ <;>
    exact ⟨rfl, rfl, byteSum_withChecksum _⟩

end Sys2Proof.Machine

/-! The steps of this family: a stored word, an unexpected response, the host's `wait`, and the same engine step
whatever `VERBOSE` is. -/

namespace Sys2Proof.Machine

/-! ## A stored word -/

/-- The code placed in a state is the one its next turn fetches (log 8, 18). -/
theorem fetch_withCode {c : Code} {i : Instr} (h : decode c = .ok i) (s : State) : fetch (s.withCode c) = .code c := by
  cases c with
  | request w => exact fetch_request rfl
  | wireOut frame => rfl
  | wireIn buf =>
    obtain ⟨len, code, b3, b4, b5, b6, rfl⟩ := decodeResponse_shape h
    exact fetch_response rfl rfl

/-- A table word that decodes is a code that does. -/
theorem decodeTableWord_eq_some {nbits w : Nat} {i : Instr} (h : decodeTableWord nbits w = some i) :
    ∃ c, tableCode nbits w = some c ∧ decode c = .ok i := by
  unfold decodeTableWord at h
  split at h
  · cases h
  · rename_i c hc
    split at h
    · rename_i hd
      cases h
      exact ⟨c, hc, hd⟩
    · cases h

/-- Settles O8: the next step fetches the code of the word (`fetch_withCode`), and decodes it as the table does. -/
theorem fetchWordIsRun : Obligations.FetchWordIsRun := by
  intro s nbits w i h
  obtain ⟨c, hc, hd⟩ := decodeTableWord_eq_some h
  have hcode : s.withFetchWord nbits w = s.withCode c := by simp only [State.withFetchWord, hc]
  simp only [hcode, step, fetch_withCode hd, hd]

/-! ## An unexpected response -/

/-- A response that is no Confirm is invalid in phase `CHK` (R201, R202). -/
theorem decideOther_chk {s : State} (hp : s.phase = .chk) (k : State → State) :
    decideOther k s = .next (s.complete .invalidResponse) := by
  simp only [decideOther, hp]

theorem decideOther_inf {s : State} (hp : s.phase = .inf) (ho : reqOp s.req = opInfo) (k : State → State) :
    decideOther k s = .next (k s) := by
  simp only [decideOther, hp, ho, if_true]

theorem inDecide_of_decide {s : State} (hf : s.fsm = .decide) (k : State → Host.Outcome State Fault Refusal) :
    inDecide s k = k s :=
  if_pos hf

/-- Settles O41: in each row the completion is that of `State.complete`. -/
theorem unexpectedResponseIsInvalid : Obligations.UnexpectedResponseIsInvalid := by
  intro len code b3 b4 b5 b6 s hf
  constructor
  · intro hp
    exact (inDecide_of_decide hf _).trans (decideOther_chk hp _)
  · rintro (hp | ⟨hp, ho⟩)
    · exact (inDecide_of_decide hf _).trans (decideOther_chk hp _)
    · exact (inDecide_of_decide hf _).trans (decideOther_inf hp ho _)

/-! ## The host's `wait` -/

/-- A turn of `wait` reads `STATUS`, and stays behind one turn of the engine while `BUSY` = 1 (R99; log 19). -/
theorem step_hostWait {s : State} (h : s.turn = .hostWait) :
    step s = .next (State.recordRead statusIndex
      { s with agenda := if s.busy then .engine :: s.agenda else s.agenda.tail }) := by
  simp [step, fetch, quiet, h]

/-- Settles O52: the two values of `BUSY` in `step_hostWait`. -/
theorem waitPollsUntilIdle : Obligations.WaitPollsUntilIdle := by
  intro s rest h
  rw [step_hostWait (State.turn_of_agenda h), h]
  exact ⟨fun hb => by rw [if_pos hb]; rfl, fun hb => by rw [if_neg (by simp [hb])]; rfl⟩

/-! ## The engine's steps -/

section EngineSteps

variable {s : State} (ht : s.turn = .engine)
include ht

theorem step_idle (hf : s.fsm = .idle) : step s = .next { s with agenda := s.agenda.tail } := by
  simp [step, fetch, quiet, engineQuiet, ht, hf]

theorem step_sleep (hf : s.fsm = .sleep) : step s = .next { s with agenda := s.agenda.tail, fsm := .read } := by
  simp [step, fetch, quiet, engineQuiet, ht, hf, State.sleepStep]

/-- The TX step transmits the Frame Builder's frame (R197). -/
theorem step_tx (hs : s.staged = none) (hf : s.fsm = .tx) {frame : List Byte}
    (hfr : frameFor s.phase s.req = .ok frame) :
    step s = .next (State.transmit frame { s with agenda := s.agenda.tail }) := by
  obtain ⟨i, hd, hx⟩ := frameFor_runs hfr
  rw [step_of_fetch hs (fetch_frame hs ht hf hfr) hd, hx]
  exact if_pos ⟨hf, rfl⟩

/-- The DECIDE step examines the accepted buffer by its command code (R200). -/
theorem step_decide (hs : s.staged = none) (hf : s.fsm = .decide) (hb : s.rx.b0 = startMarker) :
    step s = (if s.rx.b2 = cmdConfirm then decideConfirm (extractChannelMask s.rx.b3 s.rx.b4)
      else decideOther fun a => if s.rx.b2 = cmdAck then (a.setAck s.rx.b5).complete .ok
        else a.complete .invalidResponse) { s with agenda := s.agenda.tail } := by
  obtain ⟨i, hd⟩ := response_decodes hb
  rw [step_of_fetch hs (fetch_response ht hf) hd, (response_runs hd _).2]
  exact (inDecide_of_decide (s := { s with agenda := s.agenda.tail }) hf _).trans (by split_ifs <;> rfl)

end EngineSteps

/-! ## The rows of DECIDE on a Confirm -/

section Confirm

variable {s : State} (m : Word)

theorem decideConfirm_check (hp : s.phase = .chk) (ho : reqOp s.req = opCheck) :
    decideConfirm m s = .next (s.confirmCheck m) := by
  simp only [decideConfirm, hp, ho, if_true]

theorem decideConfirm_info_chk (hp : s.phase = .chk) (ho : reqOp s.req = opInfo)
    (hv : validChannel (reqArg s.req) = true) :
    decideConfirm m s = .next (s.confirmInfoCheck m (reqArg s.req).toNat) := by
  have hne : opInfo ≠ opCheck := by decide
  simp only [decideConfirm, hp, ho, if_neg hne, withChannel, hv, if_true]

theorem decideConfirm_info_inf (hp : s.phase = .inf) (ho : reqOp s.req = opInfo)
    (hv : validChannel (reqArg s.req) = true) :
    decideConfirm m s = .next (s.confirmInfoInfo m (reqArg s.req).toNat) := by
  simp only [decideConfirm, hp, ho, withChannel, hv, if_true]

end Confirm

/-! ## `VERBOSE`

A word with the same `OP`, `ARG` and `ACTION` in `REQ`, and another diagnostic output, commute with every operation
of an engine step; a READ step alone adds to the diagnostic output. -/

/-- The state with another word in `REQ` and another diagnostic output. -/
def State.reworded (w : Word) (d : List DiagEvent) (s : State) : State := { s with req := w, diag := d }

/-- The Frame Builder reads `ARG` and `ACTION` only (R197). -/
theorem frameFor_congr {v w : Word} (harg : reqArg w = reqArg v) (hact : reqAction w = reqAction v) (p : Phase) :
    frameFor p w = frameFor p v := by
  cases p <;> simp only [frameFor, harg, hact]

section Reworded

variable (w : Word) (d : List DiagEvent) (s : State)

theorem State.transmit_reworded (frame : List Byte) :
    (s.reworded w d).transmit frame = (s.transmit frame).reworded w d := by
  rw [State.transmit, State.transmit, State.afterWrite, State.afterWrite, apply_ite (State.reworded w d)]
  rfl

theorem State.takeAnswer_reworded : (s.reworded w d).takeAnswer = s.takeAnswer.reworded w d := by
  cases h : s.channel <;> simp [State.takeAnswer, State.reworded, h]

theorem State.consumeRead_reworded : (s.reworded w d).consumeRead = s.consumeRead.reworded w d := by
  have hanswer : (s.reworded w d).nextAnswer = s.nextAnswer := rfl
  rw [State.consumeRead, State.consumeRead, hanswer, State.takeAnswer_reworded]
  split <;> rfl

theorem State.afterRead_reworded (n : Nat) : (s.reworded w d).afterRead n = (s.afterRead n).reworded w d := by
  rw [State.afterRead, State.afterRead, apply_ite (State.reworded w d), apply_ite (State.reworded w d)]
  rfl

/-- Only the diagnostic output of a READ step depends on `REQ` (R156). -/
theorem State.readStep_reworded : ∃ d', (s.reworded w d).readStep = s.readStep.reworded w d' := by
  rw [State.readStep, State.consumeRead_reworded]
  exact ⟨_, State.afterRead_reworded w _ (s.consumeRead.latchResponse s.readBytes) s.readBytes.length⟩

theorem State.confirmInfoCheck_reworded (m : Word) (c : Nat) :
    (s.reworded w d).confirmInfoCheck m c = (s.confirmInfoCheck m c).reworded w d := by
  rw [State.confirmInfoCheck, State.confirmInfoCheck, apply_ite (State.reworded w d)]
  rfl

theorem State.confirmInfoInfo_reworded (m : Word) (c : Nat) :
    (s.reworded w d).confirmInfoInfo m c = (s.confirmInfoInfo m c).reworded w d := by
  rw [State.confirmInfoInfo, State.confirmInfoInfo, apply_ite (State.reworded w d), apply_ite (State.reworded w d)]
  rfl

variable {w s} {t : State} (hop : reqOp w = reqOp s.req)
include hop

theorem decideConfirm_reworded {m : Word} (harg : reqArg w = reqArg s.req) (h : decideConfirm m s = .next t) :
    decideConfirm m (s.reworded w d) = .next (t.reworded w d) := by
  rcases decideConfirm_next h with ⟨hp, ho, rfl⟩ | ⟨hp, ho, hv, rfl⟩ | ⟨hp, ho, hv, rfl⟩
  · exact decideConfirm_check m hp (hop.trans ho)
  · rw [← State.confirmInfoCheck_reworded, ← harg]
    exact decideConfirm_info_chk m hp (hop.trans ho) ((congrArg validChannel harg).trans hv)
  · rw [← State.confirmInfoInfo_reworded, ← harg]
    exact decideConfirm_info_inf m hp (hop.trans ho) ((congrArg validChannel harg).trans hv)

theorem decideOther_reworded {k : State → State} (hk : k (s.reworded w d) = (k s).reworded w d)
    (h : decideOther k s = .next t) : decideOther k (s.reworded w d) = .next (t.reworded w d) := by
  rcases decideOther_next h with ⟨hp, rfl⟩ | ⟨hp, ho, rfl⟩
  · exact decideOther_chk (s := s.reworded w d) hp k
  · rw [← hk]
    exact decideOther_inf (s := s.reworded w d) hp (hop.trans ho) k

end Reworded

/-- Settles O60: each step of the engine that `step_cases` names is taken on the reworded state too. -/
theorem verboseHasNoEffect : Obligations.VerboseHasNoEffect := by
  intro s t w d hs ht hop harg hact hstep
  change ∃ d', step (s.reworded w d) = .next (t.reworded w d')
  have ht' : (s.reworded w d).turn = .engine := ht
  obtain ⟨a, rfl, ⟨-, hf, rfl⟩ | ⟨-, hf, frame, hfr, rfl⟩ | ⟨-, hf, rfl⟩ | ⟨-, hf, rfl⟩ | ⟨-, hf, hb, hd⟩ | ⟨i, hx, -⟩ |
    ⟨w, hx, -⟩ | ⟨i, w, hx, -⟩ | ⟨hx, -⟩ | ⟨hx, -⟩ | ⟨addr, hx | ⟨v, hx⟩, -⟩⟩ := step_cases hs hstep
  · exact ⟨d, step_idle ht' hf⟩
  · have hfr' := (frameFor_congr harg hact s.phase).trans hfr
    refine ⟨d, ?_⟩
    rw [← State.transmit_reworded]
    exact step_tx ht' hs hf hfr'
  · obtain ⟨d', hread⟩ := State.readStep_reworded w d { s with agenda := s.agenda.tail }
    refine ⟨d', ?_⟩
    rw [← hread]
    exact step_read ht' hf
  · exact ⟨d, step_sleep ht' hf⟩
  · refine ⟨d, (step_decide ht' hs hf hb).trans ?_⟩
    rcases hd with ⟨hc, hd⟩ | ⟨hc, hd⟩
    · have hnext := decideConfirm_reworded (s := { s with agenda := s.agenda.tail }) d hop harg hd
      exact (congrFun (if_pos hc) _).trans hnext
    · have hnext := decideOther_reworded (s := { s with agenda := s.agenda.tail }) d hop (by split_ifs <;> rfl) hd
      exact (congrFun (if_neg hc) _).trans hnext
  all_goals exact absurd (ht.symm.trans hx) (by simp)

end Sys2Proof.Machine

/-! The checksum of a byte sequence, and the requests that accumulate it one byte at a time. -/

namespace Sys2Proof

/-! ## The checksum of a sequence -/

theorem byteSum_perm {m m' : List Byte} (h : m.Perm m') : byteSum m = byteSum m' := by
  induction h with
  | nil => rfl
  | cons b _ ih => rw [byteSum, byteSum, ih]
  | swap a b _ => exact Nat.add_left_comm _ _ _
  | trans _ _ ih ih' => exact ih.trans ih'

/-- The checksum depends on the sum modulo 256 only (R110). -/
theorem checksum_congr {m m' : List Byte} (h : byteSum m % 256 = byteSum m' % 256) : checksum m = checksum m' := by
  rw [checksum, checksum, h]

/-- Settles O11: a permutation keeps the sum (`byteSum_perm`), and a checksummed sequence sums to what the empty one
does. -/
theorem checksumIgnoresOrder : Obligations.ChecksumIgnoresOrder := by
  intro m m' h
  have hzero : byteSum (withChecksum m) % 256 = byteSum [] % 256 := byteSum_withChecksum m
  exact ⟨checksum_congr (congrArg (· % 256) (byteSum_perm h)), checksum_congr hzero⟩

/-- Settles O9: the checksum is the negated sum, so `withChecksum` and the frames built with it sum to 0. -/
theorem checksumZeroSum : Obligations.ChecksumZeroSum := by
  refine ⟨fun m => ⟨?_, byteSum_withChecksum m⟩, fun p w frame h => (Machine.frameFor_length_and_sum h).2⟩
  rw [checksum_toNat]
  omega

/-- Settles O10: a single byte is its own sum, less than 256. -/
theorem checksumOfShortSequences : Obligations.ChecksumOfShortSequences := by
  refine ⟨rfl, fun b => ?_, rfl, rfl⟩
  have hsum : byteSum [b] = b.toNat := rfl
  rw [checksum_toNat, hsum, Nat.mod_eq_of_lt b.isLt]

end Sys2Proof

namespace Sys2Proof.Machine

/-! ## The checksum requests on an idle engine -/

/-- `CKS_OUT` is the negated accumulator (R27). -/
theorem State.cksOut_eq_neg (s : State) : s.cksOut = -s.cksAcc :=
  BitVec.eq_of_toNat_eq (by simp [State.cksOut, BitVec.toNat_neg])

/-- `CKS_OUT` is the checksum of every sequence whose sum the accumulator holds (R114). -/
theorem State.cksOut_eq_checksum {s : State} {bs : List Byte} (h : s.cksAcc.toNat = byteSum bs % 256) :
    s.cksOut = checksum bs := by
  rw [State.cksOut, checksum, h]

section ChecksumRequests

variable {s : State} (hb : s.busy = false) (f : ReqFields)
include hb

theorem exec_cksclr_idle :
    exec (.cksclr f) s =
      .next { s with req := encodeRequest opCksclr f, rej := false, cksAcc := 0x00#8, result := .ok, done := true } := by
  rw [exec, execCksclr, State.accept_idle hb]
  rfl

theorem exec_cksadd_idle :
    exec (.cksadd f) s =
      .next { s with
        req := encodeRequest opCksadd f, rej := false, cksAcc := s.cksAcc + f.arg, result := .ok, done := true } := by
  rw [exec, execCksadd, State.accept_idle hb]
  rfl

end ChecksumRequests

/-- Settles O12: idle by `exec_cksclr_idle`, busy by `State.accept_busy`. -/
theorem cksclrClearsAccumulator : Obligations.CksclrClearsAccumulator := by
  intro f s
  exact ⟨fun hb => exec_cksclr_idle hb f, fun hb => congrArg Host.Outcome.next (State.accept_busy hb _ _)⟩

/-- Settles O13: the accumulator is the sum of two bytes, and `CKS_OUT` is the negated one. -/
theorem cksaddAddsByte : Obligations.CksaddAddsByte := by
  intro f s hb
  refine ⟨s.cksAcc + f.arg, BitVec.toNat_add _ _, fun hout => ?_, fun hzero => ?_, exec_cksadd_idle hb f⟩
  · rw [hout, State.cksOut_eq_neg, BitVec.add_right_neg]
  · rw [hzero, BitVec.add_zero]

/-! ## The pseudo-instruction `cks`

After `cksclr` the accumulator is 0; each `cksadd` adds its byte; the read at the end returns `CKS`. -/

/-- A run whose first step is known goes on from there. -/
theorem run_succ_of_step {s t : State} (h : step s = .next t) (n : Nat) : run (n + 1) s = run n t := by
  simp only [run, h]

/-- A request word at the head of the agenda is run with its turn used up. -/
theorem step_request {s : State} {w : Word} {i : Instr} {rest : List Turn} (h : s.agenda = .hostWrite 0#5 w :: rest)
    (hd : decodeRequest w = i) : step s = exec i { s with agenda := rest, staged := none } := by
  have ht : s.turn = .hostWrite 0#5 w := State.turn_of_agenda h
  simp only [step, fetch_request ht, decode, hd, advance, h, List.tail_cons]

section ChecksumTurns

variable {s : State} (hb : s.busy = false) {f : ReqFields} {rest : List Turn}
include hb

theorem step_cksclr (ha : s.agenda = .hostWrite 0#5 (encodeRequest opCksclr f) :: rest) :
    ∃ a, step s = .next a ∧ a.agenda = rest ∧ a.cksAcc = 0#8 ∧ a.hostReads = s.hostReads ∧ a.trace = s.trace ∧
      a.busy = false := by
  have hd : decodeRequest (encodeRequest opCksclr f) = .cksclr f := decodeRequest_encodeRequest _ f
  have hx := exec_cksclr_idle (s := { s with agenda := rest, staged := none }) hb f
  exact ⟨_, (step_request ha hd).trans hx, rfl, rfl, rfl, rfl, hb⟩

theorem step_cksadd (ha : s.agenda = .hostWrite 0#5 (encodeRequest opCksadd f) :: rest) :
    ∃ a, step s = .next a ∧ a.agenda = rest ∧ a.cksAcc = s.cksAcc + f.arg ∧ a.hostReads = s.hostReads ∧
      a.trace = s.trace ∧ a.busy = false := by
  have hd : decodeRequest (encodeRequest opCksadd f) = .cksadd f := decodeRequest_encodeRequest _ f
  have hx := exec_cksadd_idle (s := { s with agenda := rest, staged := none }) hb f
  exact ⟨_, (step_request ha hd).trans hx, rfl, rfl, rfl, rfl, hb⟩

end ChecksumTurns

/-- The bytes of `cks`, added to what the accumulator held, and the read that follows them. -/
theorem run_cksadd_turns (bs : List Byte) (rest : List Turn) {s : State} (hb : s.busy = false)
    (ha : s.agenda = bs.map (fun b => .hostWrite 0#5 (encodeRequest opCksadd ⟨b, false, 0#3, false⟩))
      ++ .hostRead cksIndex :: rest) :
    ∃ t, run (bs.length + 1) s = .next t ∧ t.agenda = rest ∧
      t.cksAcc.toNat = (s.cksAcc.toNat + byteSum bs) % 256 ∧
      t.hostReads = s.hostReads ++ [(cksIndex, wordOfBytes t.cksAcc t.cksOut)] ∧
      t.trace = s.trace ∧ t.busy = false := by
  induction bs generalizing s with
  | nil =>
    have hstep := step_hostRead (State.turn_of_agenda ha)
    have hacc : s.cksAcc.toNat = s.cksAcc.toNat % 256 := (Nat.mod_eq_of_lt s.cksAcc.isLt).symm
    exact ⟨_, run_succ_of_step hstep 0, congrArg List.tail ha, hacc, rfl, rfl, hb⟩
  | cons b bs ih =>
    obtain ⟨a, hstep, hagenda, (hacc : a.cksAcc = s.cksAcc + b), hreads, htrace, hbusy⟩ := step_cksadd hb ha
    obtain ⟨t, hrun, hrest, hsum, hreads', htrace', hbusy'⟩ := ih hbusy hagenda
    refine ⟨t, (run_succ_of_step hstep _).trans hrun, hrest, ?_, hreads ▸ hreads', htrace'.trans htrace, hbusy'⟩
    rw [hsum, hacc, BitVec.toNat_add, byteSum]
    omega

/-- Settles O14: `cksclr` starts the accumulation of `run_cksadd_turns` at 0. -/
theorem streamingChecksum : Obligations.StreamingChecksum := by
  intro bs rest s hb ha
  rw [cksTurns, List.append_assoc] at ha
  obtain ⟨a, hstep, hagenda, hacc, hreads, htrace, hbusy⟩ := step_cksclr hb ha
  obtain ⟨t, hrun, hrest, hsum, hreads', htrace', hbusy'⟩ := run_cksadd_turns bs rest hbusy hagenda
  have hsum' : t.cksAcc.toNat = byteSum bs % 256 := by simpa [hacc] using hsum
  have hout : t.cksOut = checksum bs := State.cksOut_eq_checksum hsum'
  rw [hreads, hout] at hreads'
  exact ⟨t, (run_succ_of_step hstep _).trans hrun, hrest, hsum', hout, hreads', htrace'.trans htrace, hbusy'⟩

end Sys2Proof.Machine

/-! The Frame Builder's mask bytes and frames, and the TX step on each of its frames. -/

namespace Sys2Proof

/-! ## The mask bytes of a channel -/

/-- `(1 << k) & 0xFF` as a byte is `2 ^ k` modulo 256 (R130). -/
theorem ofNat_shiftLeft_and (k : Nat) : BitVec.ofNat 8 ((1 <<< k) &&& 0xFF) = BitVec.ofNat 8 (2 ^ k) :=
  BitVec.eq_of_toNat_eq (by
    rw [BitVec.toNat_ofNat, BitVec.toNat_ofNat, Nat.one_shiftLeft, Nat.and_two_pow_sub_one_eq_mod _ 8, Nat.mod_mod])

/-- A single bit of a byte, as a number. -/
theorem toNat_ofNat_two_pow {k : Nat} (hk : k < 8) : (BitVec.ofNat 8 (2 ^ k)).toNat = 2 ^ k := by
  rw [BitVec.toNat_ofNat, Nat.mod_eq_of_lt (Nat.pow_lt_pow_right (by decide) hk)]

theorem chanToMask_low {c : Nat} (h1 : 1 ≤ c) (h8 : c ≤ 8) :
    chanToMask c = some (0x00#8, BitVec.ofNat 8 (2 ^ (c - 1))) := by
  rw [chanToMask, if_pos ⟨h1, h8⟩, ofNat_shiftLeft_and]

theorem chanToMask_high {c : Nat} (h9 : 9 ≤ c) (h16 : c ≤ 16) :
    chanToMask c = some (BitVec.ofNat 8 (2 ^ (c - 9)), 0x00#8) := by
  rw [chanToMask, if_neg (by omega), if_pos ⟨h9, h16⟩, ofNat_shiftLeft_and]

/-- `chan_to_mask` is defined on the channels 1..16 only (R132). -/
theorem channel_of_chanToMask {c : Nat} {m : Byte × Byte} (h : chanToMask c = some m) : 1 ≤ c ∧ c ≤ 16 := by
  unfold chanToMask at h
  split_ifs at h <;> omega

/-- Settles O16: the byte that holds the channel's bit is the low one up to channel 8, then the high one. -/
theorem channelMaskBytes : Obligations.ChannelMaskBytes := by
  intro c h1 h16
  rcases Nat.lt_or_ge c 9 with h | h
  · exact ⟨_, _, chanToMask_low h1 (by omega), fun _ => ⟨rfl, toNat_ofNat_two_pow (by omega)⟩, by omega⟩
  · exact ⟨_, _, chanToMask_high h h16, by omega, fun _ => ⟨toNat_ofNat_two_pow (by omega), rfl⟩⟩

/-- The mask of a channel is its bit of the 16-bit value (R131). -/
theorem wordOfBytes_chanToMask {c : Nat} {hi lo : Byte} (h : chanToMask c = some (hi, lo)) :
    (wordOfBytes hi lo).toNat = 2 ^ (c - 1) := by
  obtain ⟨h1, h16⟩ := channel_of_chanToMask h
  obtain ⟨hi', lo', h', hlow, hhigh⟩ := channelMaskBytes c h1 h16
  cases h.symm.trans h'
  rw [wordOfBytes_toNat]
  rcases Nat.lt_or_ge c 9 with hc | hc
  · obtain ⟨rfl, hlo⟩ := hlow (by omega)
    simpa using hlo
  · obtain ⟨hhi, rfl⟩ := hhigh hc
    calc hi.toNat * 256 + (0x00#8).toNat = 2 ^ (c - 9) * 2 ^ 8 := by simp [hhi]
      _ = 2 ^ (c - 1) := by rw [← Nat.pow_add, show c - 9 + 8 = c - 1 by omega]

/-- Settles O17: the learned test of channel `d` reads bit `d - 1`, and the mask has bit `c - 1` alone. -/
theorem channelMaskSelectsItsChannel : Obligations.ChannelMaskSelectsItsChannel := by
  intro c d hi lo hd _ h
  have hmask := wordOfBytes_chanToMask h
  obtain ⟨hc, -⟩ := channel_of_chanToMask h
  refine ⟨hmask, ?_⟩
  rw [isLearned_eq_bit, BitVec.getLsbD, hmask, Nat.testBit_two_pow, decide_eq_true_iff]
  omega

/-! ## The bytes of the frames -/

/-- A byte before a sequence is subtracted from its checksum (R110). -/
theorem checksum_cons (b : Byte) (bs : List Byte) : checksum (b :: bs) = checksum bs - b := by
  apply BitVec.eq_of_toNat_eq
  rw [BitVec.toNat_sub, checksum_toNat, checksum_toNat, byteSum]
  omega

/-- The mask bytes of any channel, in one equation. -/
theorem chanToMask_eq {c : Nat} (h1 : 1 ≤ c) (h16 : c ≤ 16) :
    chanToMask c = some (BitVec.ofNat 8 (if 9 ≤ c then 2 ^ (c - 9) else 0),
      BitVec.ofNat 8 (if c ≤ 8 then 2 ^ (c - 1) else 0)) := by
  rcases Nat.lt_or_ge c 9 with h | h
  · rw [chanToMask_low h1 (by omega), if_neg (by omega), if_pos (by omega)]
  · rw [chanToMask_high h h16, if_pos h, if_neg (by omega)]

/-- The frame of `BuildSend` for the mask bytes of its channel (R134). -/
theorem buildSend_eq {c : Nat} {hi lo : Byte} (h : chanToMask c = some (hi, lo)) (key : Byte) :
    buildSend c key = some [0xAA#8, 0x05#8, 0x4C#8, hi, lo, key, 0x05#8 - hi - lo - key] := by
  have hcs : checksum [startMarker, lenSend, cmdSend, hi, lo, key] = 0x05#8 - hi - lo - key := by
    have hnil : checksum [] = 0x00#8 := rfl
    simp only [checksum_cons, hnil, startMarker, lenSend, cmdSend]
    bv_omega
  simp only [buildSend, h, Option.map_some, withChecksum, hcs]
  rfl

/-- The frame of `BuildInfo` for the mask bytes of its channel (R135). -/
theorem buildInfo_eq {c : Nat} {hi lo : Byte} (h : chanToMask c = some (hi, lo)) :
    buildInfo c = some [0xAA#8, 0x04#8, 0x4E#8, hi, lo, 0x04#8 - hi - lo] := by
  have hcs : checksum [startMarker, lenInfo, cmdInfo, hi, lo] = 0x04#8 - hi - lo := by
    have hnil : checksum [] = 0x00#8 := rfl
    simp only [checksum_cons, hnil, startMarker, lenInfo, cmdInfo]
    bv_omega
  simp only [buildInfo, h, Option.map_some, withChecksum, hcs]
  rfl

/-- Settles O18: the frames by the mask bytes of the channel, the key codes of the eight `ACTION` values one by one. -/
theorem builtFrameBytes : Obligations.BuiltFrameBytes := by
  refine ⟨rfl, fun c key h1 h16 => ?_, rfl, rfl, rfl, rfl, rfl, by decide⟩
  have hmask := chanToMask_eq h1 h16
  exact ⟨buildSend_eq hmask key, buildInfo_eq hmask⟩

end Sys2Proof

namespace Sys2Proof.Machine

/-! ## The TX step on a frame -/

section TxStep

variable {s : State} (hf : s.fsm = .tx)
include hf

/-- A Send frame is recorded and written, and the request completes (R197, R198, R233). -/
theorem txStepOn_snd (hp : s.phase = .snd) (frame : List Byte) :
    txStepOn .snd frame s =
      .next { s with
        txlen := BitVec.ofNat 8 frame.length, tx := Buf.ofList frame, trace := s.trace ++ [.write frame],
        result := .ok, busy := false, done := true, fsm := .idle } := by
  rcases s.transmit_cases frame with ⟨-, ht⟩ | ⟨hne, -⟩
  · rw [txStepOn, if_pos ⟨hf, hp⟩, ht]
  · exact absurd hp hne

/-- Any other frame is recorded and written, and a read begins (R197). -/
theorem txStepOn_of_ne_snd {p : Phase} (hp : s.phase = p) (hsnd : p ≠ .snd) (frame : List Byte) :
    txStepOn p frame s =
      .next { s with
        txlen := BitVec.ofNat 8 frame.length, tx := Buf.ofList frame, trace := s.trace ++ [.write frame],
        attempts := 0#8, fsm := .read } := by
  subst hp
  rcases s.transmit_cases frame with ⟨heq, -⟩ | ⟨-, ht⟩
  · exact absurd heq hsnd
  · rw [txStepOn, if_pos ⟨hf, rfl⟩, ht]

end TxStep

/-- Settles O26: neither frame is a Send, so `txStepOn_of_ne_snd` gives the next state of both. -/
theorem checkAndInfoFramesAreSent : Obligations.CheckAndInfoFramesAreSent := fun hi lo cs _ hf =>
  ⟨fun hp => txStepOn_of_ne_snd hf hp nofun [startMarker, lenCheck, cmdCheck, cs],
    fun hp => txStepOn_of_ne_snd hf hp nofun [startMarker, lenInfo, cmdInfo, hi, lo, cs]⟩

/-- Settles O27: the TX step on a Send frame is `txStepOn_snd`. -/
theorem sendFrameCompletes : Obligations.SendFrameCompletes := fun hi lo key cs _ hf hp =>
  txStepOn_snd hf hp [startMarker, lenSend, cmdSend, hi, lo, key, cs]

end Sys2Proof.Machine

/-! The response reader: a read attempt on an answer that fits it, the last attempt, and the pause between attempts. -/

namespace Sys2Proof.Machine

/-- Settles O33: the turn in `SLEEP` is `step_sleep`. -/
theorem sleepStepEffect : Obligations.SleepStepEffect := fun _ ht hf => step_sleep ht hf

/-! ## An answer of at most seven bytes -/

/-- What follows a read attempt is decided by the bytes it left in `RX` (R151, R152). -/
theorem State.afterRead_of_rx {s : State} {bs : List Byte} (h : s.rx = Buf.ofList bs) :
    s.afterRead bs.length =
      if bs.head? = some startMarker then { s with fsm := .decide }
      else if s.attempts = s.params.maxAttempts then s.complete .timeout
      else { s with fsm := .sleep } := by
  simp only [State.afterRead, h, markerOk_ofList]

/-- A read attempt takes a listed answer that fits it whole, and returns all its bytes (R66). -/
theorem State.readStep_of_short {s : State} {a : Answer} {rest : List Answer} (h : s.channel = a :: rest)
    (hshort : (Answer.bytesGiven a).length ≤ 7) :
    s.readStep = (({ s with channel := rest } : State).latchResponse (Answer.bytesGiven a)).afterRead
      (Answer.bytesGiven a).length := by
  have hanswer : s.nextAnswer = a := by simp only [State.nextAnswer, h]
  have hbytes : s.readBytes = Answer.bytesGiven a := by
    rw [State.readBytes, hanswer]
    exact List.take_of_length_le hshort
  have hleft : (Answer.bytesGiven a).drop respLen = [] := List.drop_eq_nil_of_le hshort
  have hconsume : s.consumeRead = { s with channel := rest } := by
    simp only [State.consumeRead, hanswer, hleft, State.takeAnswer, h]
  rw [State.readStep, hbytes, hconsume]

/-- Settles O30: the attempt returns the whole answer (`readStep_of_short`), and its first byte decides what follows. -/
theorem readStepEffect : Obligations.ReadStepEffect := by
  intro s bs a rest ht hf hch hlen ha
  have hgiven : Answer.bytesGiven a = bs := by rcases ha with rfl | ⟨rfl, rfl⟩ <;> rfl
  subst hgiven
  have hch' : ({ s with agenda := s.agenda.tail } : State).channel = a :: rest := hch
  rw [step_read ht hf, State.readStep_of_short hch' hlen, State.afterRead_of_rx rfl]
  exact ⟨_, rfl⟩

/-! ## The last attempt -/

/-- Every read attempt is counted (R151). -/
theorem State.readStep_attempts (s : State) : s.readStep.attempts = s.attempts + 1#8 := by
  obtain ⟨ch, d, r, rfl, ⟨-, e⟩ | ⟨-, -, e⟩ | ⟨-, -, e⟩⟩ := s.readStep_cases <;> rw [e] <;> rfl

/-- The last attempt completes with a timeout unless its bytes begin with the marker (R155). -/
theorem State.readStep_last {s : State} (hlast : s.attempts + 1#8 = s.params.maxAttempts)
    (hm : s.readBytes.head? ≠ some startMarker) :
    ∃ r : State, s.readStep = r.complete .timeout := by
  obtain ⟨ch, d, r, rfl, ⟨haccepted, -⟩ | ⟨-, -, e⟩ | ⟨-, hmore, -⟩⟩ := s.readStep_cases
  · exact absurd ((markerOk_ofList _).1 haccepted) hm
  · exact ⟨_, e⟩
  · exact absurd hlast hmore

/-- Settles O34: whatever the channel answers, the step is a read attempt, and `readStep_last` gives its completion. -/
theorem lastFailedAttemptTimesOut : Obligations.LastFailedAttemptTimesOut := by
  intro s ht hf hlast
  obtain ⟨hrx, -, -⟩ := State.readStep_shows { s with agenda := s.agenda.tail }
  refine ⟨_, _, step_read ht hf, State.readStep_trace _, hrx, (State.readStep_attempts _).trans hlast, fun hm => ?_⟩
  obtain ⟨r, e⟩ := State.readStep_last (s := { s with agenda := s.agenda.tail }) hlast hm
  rw [e]
  exact ⟨rfl, rfl, rfl, rfl⟩

end Sys2Proof.Machine

/-! The response interpreter: the mask of a Confirm, the defined device status values, and the Confirm that answers a
`CHECK`. -/

namespace Sys2Proof

/-! ## The mask of a Confirm -/

/-- The mask extracted from a Confirm as a number: offset 3 is its high byte, offset 4 its low byte (R172). -/
theorem extractChannelMask_toNat (hi lo : Byte) :
    (extractChannelMask hi lo).toNat = hi.toNat * 256 + lo.toNat :=
  wordOfBytes_toNat hi lo

/-- The two bytes a mask is sent as give the mask back (R176). -/
theorem extractChannelMask_bytes (M : Word) :
    extractChannelMask (BitVec.ofNat 8 (M.toNat >>> 8)) (BitVec.ofNat 8 (M.toNat &&& 0xFF)) = M := by
  have hlow : M.toNat &&& 0xFF = M.toNat % 256 := Nat.and_two_pow_sub_one_eq_mod M.toNat 8
  have hlt := M.isLt
  apply BitVec.eq_of_toNat_eq
  rw [extractChannelMask_toNat, BitVec.toNat_ofNat, BitVec.toNat_ofNat, hlow, Nat.shiftRight_eq_div_pow]
  omega

/-- Settles O35: the buffer is the encoding of its Confirm, and its two mask bytes are the digits of the mask. -/
theorem confirmMaskRoundTrip : Obligations.ConfirmMaskRoundTrip := fun M x y z =>
  ⟨Laws.RoundTrip.respConfirm x _ _ y z rfl, extractChannelMask_bytes M⟩

/-! ## The device status -/

theorem knownStatus_iff (s : Byte) : knownStatus s = true ↔ s.toNat ≤ 0x11 ∧ s.toNat ≠ 0x0C := by
  simp [knownStatus]

/-- The two values whose text the source gives are defined ones, so an undefined value has neither text (R171). -/
theorem statusText_of_not_known {s : Byte} (h : knownStatus s = false) : statusText s = "Unknown" := by
  have hne {v : Byte} (hv : knownStatus v = true) : s ≠ v := by
    rintro rfl
    exact absurd hv (by simp [h])
  rw [statusText, if_neg (hne rfl), if_neg (hne rfl), if_neg (by simp [h])]

/-- Settles O36: the defined values by `knownStatus_iff`, their number and the two given texts by evaluation. -/
theorem knownStatusValues : Obligations.KnownStatusValues :=
  ⟨knownStatus_iff, rfl, rfl, rfl, fun _ => statusText_of_not_known⟩

end Sys2Proof

namespace Sys2Proof.Machine

/-! ## The answer to a `CHECK` -/

/-- Settles O37: the row of DECIDE is `decideConfirm_check`, and the mask is the Confirm's. -/
theorem confirmCompletesCheck : Obligations.ConfirmCompletesCheck := fun _ mh ml _ _ _ hf hp ho =>
  ⟨extractChannelMask mh ml, extractChannelMask_toNat mh ml,
    (inDecide_of_decide hf _).trans (decideConfirm_check _ hp ho)⟩

end Sys2Proof.Machine

/-! A whole exchange: what each step of the engine does to the counts of its exchange, the bound on the steps that
remain, and the serial events that remain. -/

namespace Sys2Proof.Machine

/-! ## The request words of a phase -/

theorem requestFits_chk {w : Word} :
    requestFits .chk w = true ↔ reqOp w = opCheck ∨ reqOp w = opInfo ∧ validChannel (reqArg w) = true := by
  simp [requestFits]

theorem requestFits_snd {w : Word} :
    requestFits .snd w = true ↔
      reqOp w = opSend ∧ validChannel (reqArg w) = true ∧ (reqAction w).toNat ≤ 4 := by
  simp [requestFits, and_assoc]

theorem requestFits_inf {w : Word} :
    requestFits .inf w = true ↔ reqOp w = opInfo ∧ validChannel (reqArg w) = true := by
  simp [requestFits]

/-! ## The engine's turn goes on (R191, R230) -/

/-- The table of R200 has a row for a Confirm in every exchange that waits for one. -/
theorem decideConfirm_goes_on {s : State} (hfits : requestFits s.phase s.req = true) (hsnd : s.phase ≠ .snd)
    (m : Word) : ∃ t, decideConfirm m s = .next t := by
  cases hp : s.phase with
  | chk =>
    rw [hp, requestFits_chk] at hfits
    rcases hfits with ho | ⟨ho, hv⟩
    · exact ⟨_, decideConfirm_check m hp ho⟩
    · exact ⟨_, decideConfirm_info_chk m hp ho hv⟩
  | snd => exact absurd hp hsnd
  | inf =>
    rw [hp, requestFits_inf] at hfits
    exact ⟨_, decideConfirm_info_inf m hp hfits.1 hfits.2⟩

/-- The table of R200 has a row for any other response, too. -/
theorem decideOther_goes_on {s : State} (hfits : requestFits s.phase s.req = true) (hsnd : s.phase ≠ .snd)
    (k : State → State) : ∃ t, decideOther k s = .next t := by
  cases hp : s.phase with
  | chk => exact ⟨_, decideOther_chk hp k⟩
  | snd => exact absurd hp hsnd
  | inf =>
    rw [hp, requestFits_inf] at hfits
    exact ⟨_, decideOther_inf hp hfits.1 k⟩

/-- In a buffer accepted by the start-marker detector, offset 0 is the marker (R152). -/
theorem marker_of_markerOk {n : Nat} {buf : Buf} (h : markerOk n buf = true) : buf.b0 = startMarker := by
  simp only [markerOk, Bool.and_eq_true, beq_iff_eq] at h
  exact h.2

/-- From the invariant the engine's turn always has a step. -/
theorem engine_goes_on {s : State} (hi : s.Inv) (ht : s.turn = .engine) : ∃ t, step s = .next t := by
  obtain ⟨h, ⟨hidle, -⟩ | he⟩ := State.inv_iff.1 hi
  · exact ⟨_, step_idle ht hidle⟩
  cases hf : s.fsm with
  | idle => exact absurd hf he.running
  | tx =>
    obtain ⟨frame, hframe⟩ := frameFor_of_fits he.fits
    exact ⟨_, step_tx ht h.notStaged hf hframe⟩
  | read => exact ⟨_, step_read ht hf⟩
  | sleep => exact ⟨_, step_sleep ht hf⟩
  | decide =>
    have hsnd := he.phase_ne_snd (by simp [hf])
    rw [step_decide ht h.notStaged hf (marker_of_markerOk (he.accepted hf).1)]
    split
    · exact decideConfirm_goes_on (s := { s with agenda := s.agenda.tail }) he.fits hsnd _
    · exact decideOther_goes_on (s := { s with agenda := s.agenda.tail }) he.fits hsnd _

/-! ## With nothing scheduled every turn is the engine's -/

theorem turn_of_agenda_nil {s : State} (h : s.agenda = []) : s.turn = .engine := by
  simp only [State.turn, h]

/-- There is no turn to use up. -/
theorem turn_used_up_of_agenda_nil {s : State} (h : s.agenda = []) :
    ({ s with agenda := s.agenda.tail } : State) = s := by
  rw [h, List.tail_nil, ← h]

/-- An idle engine with nothing scheduled stays as it is (R191; log 2). -/
theorem run_idle {s : State} (ha : s.agenda = []) (hf : s.fsm = .idle) (n : Nat) : run n s = .next s := by
  have hstep : step s = .next s := by rw [step_idle (turn_of_agenda_nil ha) hf, turn_used_up_of_agenda_nil ha]
  induction n with
  | zero => rfl
  | succ n ih => rw [run_succ_of_step hstep, ih]

/-! ## One step of an exchange -/

/-- The request has completed (R233). -/
structure State.Completed (s : State) : Prop where
  idle : s.fsm = .idle
  notBusy : s.busy = false
  done : s.done = true

theorem State.complete_completed (c : ResultCode) (s : State) : (s.complete c).Completed := ⟨rfl, rfl, rfl⟩

/-- How many Info frames the exchange may still send after the one in progress (R202, R204). -/
def State.framesLeft (s : State) : Nat :=
  match s.phase with
  | .chk => if reqOp s.req = opInfo then s.params.infoRetryMax.toNat + 1 else 0
  | .snd => 0
  | .inf => s.params.infoRetryMax.toNat - s.retries.toNat

/-- What one step of the engine does to the counts of its exchange and to the serial events. -/
inductive State.ExchangeStep (s t : State) : Prop where
  /-- `TX` of a Send (R198). -/
  | send (frame : List Byte) (fsm : s.fsm = .tx) (phase : s.phase = .snd) (built : frameFor s.phase s.req = .ok frame)
      (trace : t.trace = s.trace ++ [.write frame]) (completed : t.Completed)
  /-- `TX` of any other frame (R197). -/
  | write (frame : List Byte) (fsm : s.fsm = .tx) (phase : s.phase ≠ .snd) (built : frameFor s.phase s.req = .ok frame)
      (trace : t.trace = s.trace ++ [.write frame]) (fsm' : t.fsm = .read) (attempts : t.attempts = 0#8)
      (frames : t.framesLeft = s.framesLeft)
  /-- `READ` for the last time (R155). -/
  | timeout (bs : List Byte) (fsm : s.fsm = .read) (trace : t.trace = s.trace ++ [.read bs]) (completed : t.Completed)
  /-- `READ` otherwise: accepted or to be tried again (R151). -/
  | read (bs : List Byte) (fsm : s.fsm = .read) (trace : t.trace = s.trace ++ [.read bs])
      (fsm' : t.fsm = .decide ∨ t.fsm = .sleep) (attempts : t.attempts = s.attempts + 1#8)
      (frames : t.framesLeft = s.framesLeft)
  /-- `SLEEP` (R154). -/
  | sleep (fsm : s.fsm = .sleep) (trace : t.trace = s.trace) (fsm' : t.fsm = .read) (attempts : t.attempts = s.attempts)
      (frames : t.framesLeft = s.framesLeft)
  /-- `DECIDE` that completes the request (R201 to R207). -/
  | decided (fsm : s.fsm = .decide) (trace : t.trace = s.trace) (completed : t.Completed)
  /-- `DECIDE` that goes on to an Info frame (R202, R204). -/
  | info (fsm : s.fsm = .decide) (trace : t.trace = s.trace) (fsm' : t.fsm = .tx) (phase' : t.phase = .inf)
      (op : reqOp s.req = opInfo) (frames : s.framesLeft = t.framesLeft + 1)

section ExchangeSteps

variable {s : State}

theorem State.transmit_exchangeStep (hf : s.fsm = .tx) {frame : List Byte}
    (hframe : frameFor s.phase s.req = .ok frame) : s.ExchangeStep (s.transmit frame) := by
  rcases s.transmit_cases frame with ⟨hp, e⟩ | ⟨hp, e⟩ <;> rw [e]
  · exact .send frame hf hp hframe rfl ⟨rfl, rfl, rfl⟩
  · exact .write frame hf hp hframe rfl rfl rfl rfl

theorem State.readStep_exchangeStep (hf : s.fsm = .read) : s.ExchangeStep s.readStep := by
  obtain ⟨ch, d, r, rfl, ⟨-, e⟩ | ⟨-, -, e⟩ | ⟨-, -, e⟩⟩ := s.readStep_cases <;> rw [e]
  · exact .read _ hf rfl (.inl rfl) rfl rfl
  · exact .timeout _ hf rfl (State.complete_completed _ _)
  · exact .read _ hf rfl (.inr rfl) rfl rfl

variable (hf : s.fsm = .decide) {t : State}
include hf

theorem decideOther_exchangeStep {k : State → State} (hk : ∀ a, (k a).trace = a.trace ∧ (k a).Completed)
    (hd : decideOther k s = .next t) : s.ExchangeStep t := by
  rcases decideOther_next hd with ⟨-, rfl⟩ | ⟨-, -, rfl⟩
  · exact .decided hf rfl (State.complete_completed _ _)
  · exact .decided hf (hk s).1 (hk s).2

/-- A Confirm goes on to an Info frame only in an `INFO`, below the retry bound (R202, R204). -/
theorem decideConfirm_exchangeStep (h : s.RegistersSound) (he : s.Exchanging) {m : Word}
    (hd : decideConfirm m s = .next t) : s.ExchangeStep t := by
  rcases decideConfirm_next hd with ⟨-, -, rfl⟩ | ⟨hp, ho, -, rfl⟩ | ⟨hp, ho, -, rfl⟩
  · exact .decided hf rfl (State.complete_completed _ _)
  · rcases s.confirmInfoCheck_cases m (reqArg s.req).toNat with ⟨-, e⟩ | ⟨-, e⟩ <;> rw [e]
    · exact .info hf rfl rfl rfl ho (by simp [State.framesLeft, hp, ho, he.noRetryYet hp])
    · exact .decided hf rfl (State.complete_completed _ _)
  · rcases s.confirmInfoInfo_cases m (reqArg s.req).toNat with ⟨-, e⟩ | ⟨-, -, e⟩ | ⟨-, hr, e⟩ <;> rw [e]
    · exact .decided hf rfl (State.complete_completed _ _)
    · exact .decided hf rfl (State.complete_completed _ _)
    · have hbound := h.retriesBound
      have hmax := s.params.infoRetryMax.isLt
      refine .info hf rfl rfl hp ho ?_
      simp only [State.framesLeft, State.setMask_phase, State.setMask_params, hp]
      bv_omega

end ExchangeSteps

/-- Every step of a running engine with nothing scheduled is one of these. -/
theorem exchangeStep_of_step {s t : State} (h : s.RegistersSound) (he : s.Exchanging) (ha : s.agenda = [])
    (hstep : step s = .next t) : s.ExchangeStep t := by
  have ht := turn_of_agenda_nil ha
  obtain ⟨a, hused, hcases⟩ := step_cases h.notStaged hstep
  rw [turn_used_up_of_agenda_nil ha] at hused
  subst hused
  rcases hcases with ⟨-, hidle, -⟩ | ⟨-, hf, frame, hframe, rfl⟩ | ⟨-, hf, rfl⟩ | ⟨-, hf, rfl⟩ |
    ⟨-, hf, -, ⟨-, hd⟩ | ⟨-, hd⟩⟩ | ⟨i, hturn, -⟩ | ⟨w, hturn, -⟩ | ⟨i, w, hturn, -⟩ | ⟨hturn, -⟩ | ⟨hturn, -⟩ |
    ⟨addr, hturn | ⟨v, hturn⟩, -⟩
  · exact absurd hidle he.running
  · exact State.transmit_exchangeStep hf hframe
  · exact State.readStep_exchangeStep hf
  · exact .sleep hf rfl rfl rfl rfl
  · exact decideConfirm_exchangeStep hf h he hd
  · exact decideOther_exchangeStep hf (fun a => by split_ifs <;> exact ⟨rfl, State.complete_completed _ _⟩) hd
  all_goals exact absurd (ht.symm.trans hturn) (by simp)

/-- A running engine with nothing scheduled takes one of these steps, and what the exchange rests on stays. -/
theorem exchange_goes_on {s : State} (hi : s.Inv) (ha : s.agenda = []) (hf : s.fsm ≠ .idle) :
    ∃ t, step s = .next t ∧ t.Inv ∧ t.agenda = [] ∧ t.req = s.req ∧ t.params = s.params ∧ s.ExchangeStep t := by
  obtain ⟨h, hrun⟩ := State.inv_iff.1 hi
  have he := hrun.resolve_left fun hidle => hf hidle.1
  have ht := turn_of_agenda_nil ha
  obtain ⟨t, hstep⟩ := engine_goes_on hi ht
  obtain ⟨hreq, -, -, hparams, -, hagenda, -⟩ := engine_step_frame h.notStaged ht hstep
  exact ⟨t, hstep, invariantIsKept s t hi hstep, by rw [hagenda, ha, List.tail_nil], hreq, hparams,
    exchangeStep_of_step h he ha hstep⟩

/-! ## The bound on the steps of an exchange (R209) -/

/-- The engine steps of one frame with its read attempts: the frame, up to `MAX_ATTEMPTS` reads with a pause between
any two, and the decision. -/
def Params.stepsPerFrame (p : Params) : Nat := 2 * p.maxAttempts.toNat + 1

/-- The bound on the engine steps until the exchange is complete. -/
def State.stepsLeft (s : State) : Nat :=
  match s.fsm with
  | .idle => 0
  | .tx => if s.phase = .snd then 1 else (s.framesLeft + 1) * Params.stepsPerFrame s.params
  | .read => 2 * (s.params.maxAttempts.toNat - s.attempts.toNat) + s.framesLeft * Params.stepsPerFrame s.params
  | .sleep => 2 * (s.params.maxAttempts.toNat - s.attempts.toNat) + 1 + s.framesLeft * Params.stepsPerFrame s.params
  | .decide => 1 + s.framesLeft * Params.stepsPerFrame s.params

theorem State.Completed.stepsLeft {s : State} (h : s.Completed) : s.stepsLeft = 0 := by
  simp only [State.stepsLeft, h.idle]

/-- An attempt that leaves attempts to make is counted without wrapping (R28). -/
theorem attempts_succ_toNat {s : State} (h : s.attempts.toNat < s.params.maxAttempts.toNat) :
    (s.attempts + 1#8).toNat = s.attempts.toNat + 1 := by
  have := s.params.maxAttempts.isLt
  bv_omega

/-- Every step of an exchange takes one off the bound. -/
theorem State.ExchangeStep.stepsLeft_lt {s t : State} (he : s.Exchanging) (hparams : t.params = s.params)
    (hx : s.ExchangeStep t) : t.stepsLeft < s.stepsLeft := by
  cases hx with
  | send frame fsm phase built trace completed =>
    rw [completed.stepsLeft]
    simp [State.stepsLeft, fsm, phase]
  | write frame fsm phase built trace fsm' attempts frames =>
    simp only [State.stepsLeft, fsm, fsm', if_neg phase, attempts, frames, hparams, Nat.succ_mul,
      Params.stepsPerFrame, BitVec.toNat_zero]
    omega
  | timeout bs fsm trace completed =>
    have := he.attemptsLeft (.inl fsm)
    rw [completed.stepsLeft]
    simp only [State.stepsLeft, fsm]
    omega
  | read bs fsm trace fsm' attempts frames =>
    have hleft := he.attemptsLeft (.inl fsm)
    rcases fsm' with fsm' | fsm' <;>
      simp only [State.stepsLeft, fsm, fsm', attempts, frames, hparams, attempts_succ_toNat hleft] <;> omega
  | sleep fsm trace fsm' attempts frames =>
    simp only [State.stepsLeft, fsm, fsm', attempts, frames, hparams]
    omega
  | decided fsm trace completed =>
    rw [completed.stepsLeft]
    simp only [State.stepsLeft, fsm]
    omega
  | info fsm trace fsm' phase' op frames =>
    simp only [State.stepsLeft, fsm, fsm', phase', frames, hparams, reduceCtorEq, if_false]
    omega

/-- The engine comes to rest only by a completion. -/
theorem State.ExchangeStep.completed_of_idle {s t : State} (hx : s.ExchangeStep t) (hidle : t.fsm = .idle) :
    t.Completed := by
  cases hx with
  | send => assumption
  | timeout => assumption
  | decided => assumption
  | read bs fsm trace fsm' => rcases fsm' with h | h <;> exact absurd (hidle.symm.trans h) (by simp)
  | write frame fsm phase built trace fsm' => exact absurd (hidle.symm.trans fsm') (by simp)
  | sleep fsm trace fsm' => exact absurd (hidle.symm.trans fsm') (by simp)
  | info fsm trace fsm' => exact absurd (hidle.symm.trans fsm') (by simp)

/-- A running exchange completes within its bound. -/
theorem run_completes {s : State} (hi : s.Inv) (ha : s.agenda = []) (hf : s.fsm ≠ .idle) :
    ∃ n u, n ≤ s.stepsLeft ∧ run n s = .next u ∧ u.Completed := by
  induction hbound : s.stepsLeft using Nat.strong_induction_on generalizing s with
  | _ bound ih =>
    subst hbound
    have he := (State.inv_iff.1 hi).2.resolve_left fun hidle => hf hidle.1
    obtain ⟨t, hstep, hinv, hagenda, -, hparams, hx⟩ := exchange_goes_on hi ha hf
    have hlt := hx.stepsLeft_lt he hparams
    by_cases hidle : t.fsm = .idle
    · exact ⟨1, t, by omega, run_succ_of_step hstep 0, hx.completed_of_idle hidle⟩
    · obtain ⟨n, u, hn, hrun, hu⟩ := ih _ hlt hinv hagenda hidle rfl
      exact ⟨n + 1, u, by omega, (run_succ_of_step hstep n).trans hrun, hu⟩

/-! ## The request that starts an exchange -/

/-- A decoded request word runs as `requestEffect`. -/
theorem eq_requestEffect_of_exec {w : Word} {i : Instr} {s t : State} (hd : decode (.request w) = .ok i)
    (hx : exec i s = .next t) : t = requestEffect w s := by
  cases hd
  rw [exec_decodeRequest] at hx
  cases hx
  rfl

/-- A request that leaves the engine busy has started the exchange of a phase that its word fits (R193, R195). -/
theorem requestEffect_starts {w : Word} {s : State} (hb : s.busy = false) (hbusy : (requestEffect w s).busy = true) :
    ∃ p, requestFits p w = true ∧ p ≠ .inf ∧
      requestEffect w s = State.startExchange p { s with req := w, done := false, rej := false } := by
  obtain ⟨a, rfl, hstart | ⟨c, e⟩ | ⟨-, acc, e⟩⟩ := requestEffect_idle hb w
  · exact hstart
  · rw [e] at hbusy
    exact absurd (hb.symm.trans hbusy) (by simp)
  · rw [e] at hbusy
    exact absurd (hb.symm.trans hbusy) (by simp)

/-- At its start an exchange is within the bound of its request. -/
theorem startExchange_stepsLeft {p : Phase} {s : State} (hfits : requestFits p s.req = true) (hp : p ≠ .inf) :
    (s.startExchange p).stepsLeft = exchangeBound s.params s.req := by
  have hops : opInfo ≠ opSend ∧ opInfo ≠ opCheck ∧ opCheck ≠ opSend ∧ opCheck ≠ opInfo := by decide
  cases p with
  | inf => exact absurd rfl hp
  | snd =>
    obtain ⟨ho, -⟩ := requestFits_snd.1 hfits
    simp [State.stepsLeft, exchangeBound, ho]
  | chk =>
    rcases requestFits_chk.1 hfits with ho | ⟨ho, -⟩ <;>
      simp [State.stepsLeft, State.framesLeft, exchangeBound, Params.stepsPerFrame, ho, hops]

/-- Settles O45: the exchange is started within its bound, every step takes one off it (`stepsLeft_lt`). -/
theorem exchangesTerminate : Obligations.ExchangesTerminate := by
  intro w i s t hi hb ha hd hx hbusy
  obtain rfl := eq_requestEffect_of_exec hd hx
  have hinv := requestEffect_inv hi w
  obtain ⟨p, hfits, hp, e⟩ := requestEffect_starts hb hbusy
  rw [e] at hinv ⊢
  obtain ⟨n, u, hn, hrun, hu⟩ := run_completes hinv ha (by simp)
  rw [startExchange_stepsLeft hfits hp] at hn
  exact ⟨n, u, hn, hrun, hu.idle, hu.notBusy, hu.done⟩

/-! ## The serial events of an exchange (R210) -/

/-- The serial events an exchange may still have: `frame` is the Info frame it may still send. -/
def State.Awaits (frame : List Byte) (s : State) (events : List SerialEvent) : Prop :=
  match s.fsm with
  | .idle => events = []
  | .tx => ∃ f rest, frameFor s.phase s.req = .ok f ∧ events = .write f :: rest ∧
      if s.phase = .snd then rest = []
      else readsThenFrames s.params.maxAttempts.toNat frame s.framesLeft 0 rest = true
  | .read | .sleep | .decide =>
    readsThenFrames s.params.maxAttempts.toNat frame s.framesLeft s.attempts.toNat events = true

theorem readsThenFrames_nil {m j k : Nat} {frame : List Byte} :
    readsThenFrames m frame j k [] = true ↔ 1 ≤ k ∧ k ≤ m := by
  cases j <;> simp [readsThenFrames]

theorem readsThenFrames_read {m j k : Nat} {frame bs : List Byte} {rest : List SerialEvent} :
    readsThenFrames m frame j k (.read bs :: rest) = readsThenFrames m frame j (k + 1) rest := by
  cases j <;> rfl

theorem readsThenFrames_write {m j k : Nat} {frame f : List Byte} {rest : List SerialEvent} :
    readsThenFrames m frame (j + 1) k (.write f :: rest) = true ↔
      1 ≤ k ∧ k ≤ m ∧ f = frame ∧ readsThenFrames m frame j 0 rest = true := by
  simp [readsThenFrames, and_assoc]

/-- The events of a step, and then those the next state awaits, are events the state awaits. -/
theorem State.ExchangeStep.awaits {s t : State} {frame : List Byte} (h : s.RegistersSound) (he : s.Exchanging)
    (hinfo : reqOp s.req = opInfo → frameFor .inf s.req = .ok frame) (hreq : t.req = s.req)
    (hparams : t.params = s.params) (hx : s.ExchangeStep t) :
    ∃ es, t.trace = s.trace ++ es ∧ ∀ later, t.Awaits frame later → s.Awaits frame (es ++ later) := by
  cases hx with
  | send f fsm phase built trace completed =>
    refine ⟨_, trace, fun later hlater => ?_⟩
    simp only [State.Awaits, completed.idle] at hlater
    simp only [State.Awaits, fsm]
    exact ⟨f, [], built, by rw [hlater]; rfl, by rw [if_pos phase]⟩
  | write f fsm phase built trace fsm' attempts frames =>
    refine ⟨_, trace, fun later hlater => ?_⟩
    simp only [State.Awaits, fsm', attempts, frames, hparams] at hlater
    simp only [State.Awaits, fsm]
    exact ⟨f, later, built, rfl, by rw [if_neg phase]; exact hlater⟩
  | timeout bs fsm trace completed =>
    have hleft := he.attemptsLeft (.inl fsm)
    refine ⟨_, trace, fun later hlater => ?_⟩
    simp only [State.Awaits, completed.idle] at hlater
    simp only [State.Awaits, fsm, hlater, List.cons_append, List.nil_append, readsThenFrames_read, readsThenFrames_nil]
    omega
  | read bs fsm trace fsm' attempts frames =>
    have hleft := he.attemptsLeft (.inl fsm)
    refine ⟨_, trace, fun later hlater => ?_⟩
    simp only [State.Awaits, fsm, List.cons_append, List.nil_append, readsThenFrames_read]
    rcases fsm' with fsm' | fsm' <;>
      simpa only [State.Awaits, fsm', attempts, frames, hparams, attempts_succ_toNat hleft] using hlater
  | sleep fsm trace fsm' attempts frames =>
    refine ⟨[], by rw [trace, List.append_nil], fun later hlater => ?_⟩
    simpa only [State.Awaits, fsm, fsm', attempts, frames, hparams, List.nil_append] using hlater
  | decided fsm trace completed =>
    refine ⟨[], by rw [trace, List.append_nil], fun later hlater => ?_⟩
    simp only [State.Awaits, completed.idle] at hlater
    simp only [State.Awaits, fsm, hlater, List.append_nil, readsThenFrames_nil]
    exact ⟨(he.accepted fsm).2, h.attemptsBound⟩
  | info fsm trace fsm' phase' op frames =>
    refine ⟨[], by rw [trace, List.append_nil], fun later hlater => ?_⟩
    simp only [State.Awaits, fsm', phase', hreq, hparams] at hlater
    obtain ⟨f, rest, hf, rfl, hrest⟩ := hlater
    cases hf.symm.trans (hinfo op)
    simp only [State.Awaits, fsm, frames, List.nil_append, readsThenFrames_write]
    exact ⟨(he.accepted fsm).2, h.attemptsBound, trivial, by simpa using hrest⟩

/-- The serial events of a run that ends in `IDLE` are events its first state awaits. -/
theorem run_awaits {frame : List Byte} (n : Nat) {s u : State} (hi : s.Inv) (ha : s.agenda = [])
    (hinfo : reqOp s.req = opInfo → frameFor .inf s.req = .ok frame) (hrun : run n s = .next u) (hu : u.fsm = .idle) :
    ∃ es, u.trace = s.trace ++ es ∧ s.Awaits frame es := by
  induction n generalizing s with
  | zero =>
    cases hrun
    exact ⟨[], (List.append_nil _).symm, by simp only [State.Awaits, hu]⟩
  | succ n ih =>
    by_cases hf : s.fsm = .idle
    · rw [run_idle ha hf] at hrun
      cases hrun
      exact ⟨[], (List.append_nil _).symm, by simp only [State.Awaits, hf]⟩
    · obtain ⟨h, hrests⟩ := State.inv_iff.1 hi
      have he := hrests.resolve_left fun hidle => hf hidle.1
      obtain ⟨t, hstep, hinv, hagenda, hreq, hparams, hx⟩ := exchange_goes_on hi ha hf
      rw [run_succ_of_step hstep] at hrun
      obtain ⟨later, htrace, hlater⟩ := ih hinv hagenda (by rwa [hreq]) hrun
      obtain ⟨es, htrace', hes⟩ := hx.awaits h he hinfo hreq hparams
      exact ⟨es ++ later, by rw [htrace, htrace', List.append_assoc], hes later hlater⟩

/-- The events a started exchange awaits match the pattern of its request. -/
theorem startExchange_awaits {p : Phase} {s : State} (hfits : requestFits p s.req = true) (hp : p ≠ .inf) :
    ∃ frame, (reqOp s.req = opInfo → frameFor .inf s.req = .ok frame) ∧
      ∀ es, (s.startExchange p).Awaits frame es → exchangeEvents s.params s.req es = true := by
  have hops : opInfo ≠ opSend ∧ opInfo ≠ opCheck ∧ opCheck ≠ opSend ∧ opCheck ≠ opInfo ∧ opSend ≠ opInfo := by decide
  cases p with
  | inf => exact absurd rfl hp
  | snd =>
    obtain ⟨ho, -⟩ := requestFits_snd.1 hfits
    refine ⟨[], by simp [ho, hops], ?_⟩
    rintro es ⟨f, rest, hf, rfl, hrest⟩
    rw [State.startExchange_phase, State.startExchange_req] at hf
    obtain rfl : rest = [] := hrest
    simp [exchangeEvents, ho, hf, Except.toOption]
  | chk =>
    rcases requestFits_chk.1 hfits with ho | ⟨ho, hv⟩
    · refine ⟨[], by simp [ho, hops], ?_⟩
      rintro es ⟨f, rest, hf, rfl, hrest⟩
      cases hf
      simpa [exchangeEvents, ho, hops, State.framesLeft] using hrest
    · obtain ⟨frame, hframe⟩ := frameFor_of_fits (requestFits_inf.2 ⟨ho, hv⟩)
      refine ⟨frame, fun _ => hframe, ?_⟩
      rintro es ⟨f, rest, hf, rfl, hrest⟩
      cases hf
      simpa [exchangeEvents, ho, hops, State.framesLeft, hframe, Except.toOption] using hrest

/-- With nothing scheduled, an engine that is not busy stays as it is. -/
theorem run_of_not_busy {s : State} (hi : s.Inv) (ha : s.agenda = []) (hb : s.busy = false) (n : Nat) :
    run n s = .next s := by
  obtain ⟨-, ⟨hidle, -⟩ | he⟩ := State.inv_iff.1 hi
  · exact run_idle ha hidle n
  · exact absurd (hb.symm.trans he.busy) (by simp)

@[simp] theorem requestEffect_agenda (w : Word) (s : State) : (requestEffect w s).agenda = s.agenda := by
  cases hb : s.busy with
  | true => rw [requestEffect_busy hb]
  | false =>
    obtain ⟨a, rfl, ⟨p, -, -, e⟩ | ⟨c, e⟩ | ⟨-, acc, e⟩⟩ := requestEffect_idle hb w <;> rw [e] <;> rfl

/-- Settles O46: the write of the word adds no event (`requestEffect_trace`), an idle engine stays as it is, and a run
of a started exchange adds the events that its start awaits (`run_awaits`). -/
theorem exchangeEventsMatchPattern : Obligations.ExchangeEventsMatchPattern := by
  intro w i s t hi ha hd hx
  obtain rfl := eq_requestEffect_of_exec hd hx
  have hinv := requestEffect_inv hi w
  have hagenda := (requestEffect_agenda w s).trans ha
  refine ⟨fun _ => requestEffect_trace w s,
    fun hfree => ⟨requestEffect_trace w s, run_of_not_busy hinv hagenda hfree⟩, fun hb hbusy n u hrun hu => ?_⟩
  obtain ⟨p, hfits, hp, e⟩ := requestEffect_starts hb hbusy
  rw [e] at hinv hagenda hrun
  obtain ⟨frame, hinfo, hpattern⟩ :=
    startExchange_awaits (s := { s with req := w, done := false, rej := false }) hfits hp
  obtain ⟨es, htrace, hes⟩ := run_awaits n hinv hagenda hinfo hrun hu
  exact ⟨es, htrace, hpattern es hes⟩

end Sys2Proof.Machine

/-! The acceptance of each request (R192 to R196), the TX step on the Frame Builder's frame, the DECIDE step of an
`INFO`, and the steps that the rules do not give. -/

namespace Sys2Proof.Machine

/-! ## Accepting a request -/

/-- Settles O20: every decoded word is dropped alike (`requestEffect_busy`). -/
theorem busyRequestIsDropped : Obligations.BusyRequestIsDropped := by
  intro w i s hb hd
  cases hd
  rw [exec_decodeRequest, requestEffect_busy hb]

/-- Settles O21: `startExchange` clears the exchange registers and enters `TX`. -/
theorem checkStartsExchange : Obligations.CheckStartsExchange := fun _ _ hb => exec_check_idle hb

/-- The bytes outside 1..16 are no channels (R82). -/
theorem validChannel_eq_false_iff (a : Byte) : validChannel a = false ↔ a.toNat = 0 ∨ 16 < a.toNat := by
  rw [← Bool.not_eq_true, validChannel_iff]
  omega

section Validation

variable {f : ReqFields} {s : State} (hb : s.busy = false)
include hb

theorem exec_send_bad_channel (hv : validChannel f.arg = false) :
    exec (.send f) s =
      .next { s with req := encodeRequest opSend f, rej := false, result := .badChannel, done := true } := by
  rw [exec, execSend, State.accept_idle hb, hv]
  rfl

theorem exec_send_bad_action (hv : validChannel f.arg = true) (ha : 4 < f.action.toNat) :
    exec (.send f) s =
      .next { s with req := encodeRequest opSend f, rej := false, result := .badAction, done := true } := by
  rw [exec, execSend, State.accept_idle hb, hv, if_neg (by decide), if_pos ha]
  rfl

theorem exec_info_bad_channel (hv : validChannel f.arg = false) :
    exec (.info f) s =
      .next { s with req := encodeRequest opInfo f, rej := false, result := .badChannel, done := true } := by
  rw [exec, execInfo, State.accept_idle hb, hv]
  rfl

end Validation

/-- Settles O22: the channel is checked before the action (R193), and a valid Send starts in phase `SND`. -/
theorem sendIsValidatedAndStarted : Obligations.SendIsValidatedAndStarted := fun _ _ hb =>
  ⟨fun hbad => exec_send_bad_channel hb ((validChannel_eq_false_iff _).2 hbad),
    fun h1 h16 => exec_send_bad_action hb ((validChannel_iff _).2 ⟨h1, h16⟩),
    fun h1 h16 => exec_send_idle hb ((validChannel_iff _).2 ⟨h1, h16⟩)⟩

/-- Settles O23: only the channel is checked, and a valid `INFO` starts in phase `CHK`. -/
theorem infoIsValidatedAndStarted : Obligations.InfoIsValidatedAndStarted := fun _ _ hb =>
  ⟨fun hbad => exec_info_bad_channel hb ((validChannel_eq_false_iff _).2 hbad),
    fun h1 h16 => exec_info_idle hb ((validChannel_iff _).2 ⟨h1, h16⟩)⟩

/-- Settles O24: each reserved word is accepted and completes at once (R193). -/
theorem reservedOpsCompleteWithBadOp : Obligations.ReservedOpsCompleteWithBadOp := fun _ _ hb =>
  ⟨congrArg Host.Outcome.next (State.accept_idle hb _ _), congrArg Host.Outcome.next (State.accept_idle hb _ _),
    congrArg Host.Outcome.next (State.accept_idle hb _ _)⟩

/-! ## The TX step on the Frame Builder's frame -/

/-- `TXLEN` counts the bytes of a frame of the Frame Builder (R29). -/
theorem frameFor_txlen {p : Phase} {w : Word} {frame : List Byte} (h : frameFor p w = .ok frame) :
    (BitVec.ofNat 8 frame.length).toNat = frame.length := by
  obtain ⟨hlen, -⟩ := frameFor_length_and_sum h
  rw [BitVec.toNat_ofNat, Nat.mod_eq_of_lt (by omega)]

/-- Settles O28: the step is `transmit` on the built frame, and only the phase decides what follows the write. -/
theorem txStepSendsBuiltFrame : Obligations.TxStepSendsBuiltFrame := by
  intro s frame hs ht hf hframe
  have hlen := frameFor_txlen hframe
  have hstep := step_tx ht hs hf hframe
  rcases State.transmit_cases frame { s with agenda := s.agenda.tail } with ⟨hp, e⟩ | ⟨hp, e⟩ <;> rw [e] at hstep
  · exact ⟨_, hstep, rfl, hlen, rfl, rfl, rfl, fun _ => ⟨rfl, rfl, rfl, rfl⟩, fun hne => absurd hp hne⟩
  · exact ⟨_, hstep, rfl, hlen, rfl, rfl, rfl, fun hsnd => absurd hsnd hp, fun _ => ⟨rfl, rfl, rfl, rfl⟩⟩

/-- The Send frame of a request word is that of its channel and its action's key (R134, R197). -/
theorem frameFor_snd {f : ReqFields} {key : Byte} {frame : List Byte} (hkey : keyOfField f.action = some key)
    (hbuilt : buildSend f.arg.toNat key = some frame) (op : BitVec 3) :
    frameFor .snd (encodeRequest op f) = .ok frame := by
  simp only [frameFor, reqAction_encodeRequest, reqArg_encodeRequest, hkey, hbuilt]

/-- A valid channel has a Send frame for every key (R134). -/
theorem buildSend_of_valid {c : Byte} (hv : validChannel c = true) (key : Byte) :
    ∃ frame, buildSend c.toNat key = some frame := by
  obtain ⟨⟨hi, lo⟩, hmask⟩ := chanToMask_of_valid hv
  exact ⟨_, buildSend_eq hmask key⟩

/-- Settles O29: the start cleared every exchange register, and the TX step of phase `SND` completes. -/
theorem sendNeedsNoLearnedChannel : Obligations.SendNeedsNoLearnedChannel := by
  intro f s hb hs ha h1 h16 haction
  have hv : validChannel f.arg = true := (validChannel_iff _).2 ⟨h1, h16⟩
  obtain ⟨key, hkey⟩ := keyOfField_of_le haction
  obtain ⟨frame, hbuilt⟩ := buildSend_of_valid hv key
  have hstep := step_tx (turn_of_agenda_nil ha) hs rfl (frameFor_snd hkey hbuilt opSend)
    (s := State.startExchange .snd { s with req := encodeRequest opSend f, done := false, rej := false })
  exact ⟨_, _, key, frame, exec_send_idle hb hv haction, hstep, hkey, hbuilt, rfl, rfl, rfl, rfl, rfl, rfl, rfl, rfl,
    rfl, rfl⟩

/-! ## A `CHECK` answered at once -/

/-- The state once the Check frame is written (R197). -/
def State.checkSent (s : State) : State :=
  { s with
    txlen := 4#8, tx := Buf.ofList buildCheck, trace := s.trace ++ [.write buildCheck], attempts := 0#8, fsm := .read }

/-- The state once a whole buffer is read and accepted (R151): `rest` is what the channel has left, `d` the diagnostic
output. -/
def State.responseReceived (buf : Buf) (rest : List Answer) (d : List DiagEvent) (s : State) : State :=
  { s with
    channel := rest, attempts := s.attempts + 1#8, rx := buf, rxcnt := 7#8, trace := s.trace ++ [.read buf.toList],
    diag := d, fsm := .decide }

section AnsweredCheck

variable {s : State} (ha : s.agenda = [])
include ha

theorem step_check_frame (hs : s.staged = none) (hf : s.fsm = .tx) (hp : s.phase = .chk) :
    step s = .next s.checkSent := by
  have hframe : frameFor s.phase s.req = .ok buildCheck := by rw [hp]; rfl
  rw [step_tx (turn_of_agenda_nil ha) hs hf hframe, turn_used_up_of_agenda_nil ha]
  rcases s.transmit_cases buildCheck with ⟨hsnd, -⟩ | ⟨-, e⟩
  · exact absurd (hp.symm.trans hsnd) (by simp)
  · rw [e]
    rfl

theorem step_read_accepted (hf : s.fsm = .read) {buf : Buf} {rest : List Answer}
    (hch : s.channel = .bytes buf.toList :: rest) (hmarker : buf.b0 = startMarker) :
    ∃ d, step s = .next (s.responseReceived buf rest d) := by
  obtain ⟨d, hread⟩ := readStepEffect s buf.toList _ rest (turn_of_agenda_nil ha) hf hch (Nat.le_refl 7) (.inl rfl)
  rw [ha, List.tail_nil, ← ha] at hread
  exact ⟨d, hread.trans (congrArg Host.Outcome.next (if_pos (congrArg some hmarker)))⟩

theorem step_confirm_check (hs : s.staged = none) (hf : s.fsm = .decide) (hp : s.phase = .chk)
    (ho : reqOp s.req = opCheck) (hmarker : s.rx.b0 = startMarker) (hcode : s.rx.b2 = cmdConfirm) :
    step s = .next (s.confirmCheck (extractChannelMask s.rx.b3 s.rx.b4)) := by
  rw [step_decide (turn_of_agenda_nil ha) hs hf hmarker, turn_used_up_of_agenda_nil ha, if_pos hcode,
    decideConfirm_check _ hp ho]

/-- The three steps of a `CHECK` whose Check frame is answered by a Confirm of seven bytes (R197, R151, R201). -/
theorem run_check_answered (hs : s.staged = none) (hf : s.fsm = .tx) (hp : s.phase = .chk)
    (ho : reqOp s.req = opCheck) {buf : Buf} {rest : List Answer} (hch : s.channel = .bytes buf.toList :: rest)
    (hmarker : buf.b0 = startMarker) (hcode : buf.b2 = cmdConfirm) :
    ∃ d, run 3 s =
      .next ((s.checkSent.responseReceived buf rest d).confirmCheck (extractChannelMask buf.b3 buf.b4)) := by
  have hwrite := step_check_frame ha hs hf hp
  obtain ⟨d, hread⟩ := step_read_accepted (s := s.checkSent) ha rfl hch hmarker
  have hdecide := step_confirm_check (s := s.checkSent.responseReceived buf rest d) ha hs rfl hp ho hmarker hcode
  exact ⟨d, (run_succ_of_step hwrite 2).trans ((run_succ_of_step hread 1).trans (run_succ_of_step hdecide 0))⟩

end AnsweredCheck

/-- Settles O44: the start of the `CHECK`, and then the three steps of `run_check_answered`. -/
theorem checkAnsweredAtOnce : Obligations.CheckAnsweredAtOnce := by
  intro f s x mh ml y z rest hb hs ha hch
  obtain ⟨d, hrun⟩ := run_check_answered ha hs rfl rfl (reqOp_encodeRequest opCheck f) hch rfl rfl
    (s := State.startExchange .chk { s with req := encodeRequest opCheck f, done := false, rej := false })
    (buf := ⟨0xAA#8, x, 0x4B#8, mh, ml, y, z⟩)
  exact ⟨_, _, exec_check_idle hb, hrun, extractChannelMask_toNat mh ml, rfl, rfl, rfl, rfl, rfl, rfl, rfl, rfl, rfl,
    List.append_assoc _ _ _⟩

/-! ## The answers in an `INFO` -/

/-- Settles O38: the learned test of R202 is the channel's bit of the Confirm's mask. -/
theorem confirmInCheckPartOfInfo : Obligations.ConfirmInCheckPartOfInfo := by
  intro len mh ml b5 b6 s hf hp ho h1 h16
  refine ⟨extractChannelMask mh ml, extractChannelMask_toNat mh ml, (inDecide_of_decide hf _).trans ?_⟩
  rw [decideConfirm_info_chk _ hp ho ((validChannel_iff _).2 ⟨h1, h16⟩), State.confirmInfoCheck, isLearned_eq_bit]
  rfl

/-- Settles O39: `confirmInfoInfo` tests the channel's bit before the retry bound (R236). -/
theorem confirmInPlaceOfAck : Obligations.ConfirmInPlaceOfAck := by
  intro len mh ml b5 b6 s hf hp ho h1 h16
  refine ⟨extractChannelMask mh ml, extractChannelMask_toNat mh ml, (inDecide_of_decide hf _).trans ?_⟩
  rw [decideConfirm_info_inf _ hp ho ((validChannel_iff _).2 ⟨h1, h16⟩)]
  rcases s.confirmInfoInfo_cases (extractChannelMask mh ml) (reqArg s.req).toNat with
    ⟨hbit, e⟩ | ⟨hbit, hr, e⟩ | ⟨hbit, hr, e⟩ <;> rw [isLearned_eq_bit] at hbit <;> rw [e]
  · rw [if_pos hbit]
    rfl
  · rw [if_neg (by simp [hbit]), if_pos hr]
    rfl
  · rw [if_neg (by simp [hbit]), if_neg hr]
    rfl

/-- `known` as the statement writes it (R170). -/
theorem knownStatus_eq_decide (st : Byte) : knownStatus st = decide (st.toNat ≤ 0x11 ∧ st.toNat ≠ 0x0C) := by
  rw [Bool.eq_iff_iff, knownStatus_iff, decide_eq_true_iff]

/-- Settles O40: the row 4D of phase `INF` is `decideOther_inf`. -/
theorem ackCompletesInfo : Obligations.AckCompletesInfo := by
  intro len b3 b4 st b6 s hf hp ho
  rw [← knownStatus_eq_decide]
  exact (inDecide_of_decide hf _).trans (decideOther_inf hp ho _)

/-! ## Steps that are not enabled (R191; log 12) -/

section Stops

variable {s : State}

theorem txStepOn_of_not_enabled {p : Phase} (h : s.fsm ≠ .tx ∨ s.phase ≠ p) (frame : List Byte) :
    txStepOn p frame s = .fault .stepNotEnabled :=
  if_neg fun ⟨hf, hp⟩ => h.elim (· hf) (· hp)

theorem inDecide_of_ne_decide (hf : s.fsm ≠ .decide) (k : State → Host.Outcome State Fault Refusal) :
    inDecide s k = .fault .stepNotEnabled :=
  if_neg hf

theorem decideConfirm_snd (hp : s.phase = .snd) (m : Word) : decideConfirm m s = .fault .noDecideRule := by
  simp only [decideConfirm, hp]

theorem decideOther_snd (hp : s.phase = .snd) (k : State → State) : decideOther k s = .fault .noDecideRule := by
  simp only [decideOther, hp]

end Stops

/-- Settles O42: each instruction stops in the guard of its step, or in the missing row of phase `SND`. -/
theorem disabledEngineStepsStop : Obligations.DisabledEngineStepsStop := by
  intro a b c d e f s
  refine ⟨fun h => txStepOn_of_not_enabled h _, fun h => txStepOn_of_not_enabled h _,
    fun h => txStepOn_of_not_enabled h _, fun hf => ?_, fun hf hp => ?_⟩
  · exact ⟨inDecide_of_ne_decide hf _, inDecide_of_ne_decide hf _, inDecide_of_ne_decide hf _⟩
  · exact ⟨(inDecide_of_decide hf _).trans (decideConfirm_snd hp _),
      (inDecide_of_decide hf _).trans (decideOther_snd hp _), (inDecide_of_decide hf _).trans (decideOther_snd hp _)⟩

/-! ## Steps that no rule gives (R200, R174, R132, R96; log 12) -/

section NoRule

variable {s : State}

theorem decideConfirm_chk_no_rule (hp : s.phase = .chk) (hcheck : reqOp s.req ≠ opCheck) (hinfo : reqOp s.req ≠ opInfo)
    (m : Word) : decideConfirm m s = .fault .noDecideRule := by
  simp only [decideConfirm, hp, if_neg hcheck, if_neg hinfo]

theorem decideConfirm_inf_no_rule (hp : s.phase = .inf) (hinfo : reqOp s.req ≠ opInfo) (m : Word) :
    decideConfirm m s = .fault .noDecideRule := by
  simp only [decideConfirm, hp, if_neg hinfo]

theorem decideOther_inf_no_rule (hp : s.phase = .inf) (hinfo : reqOp s.req ≠ opInfo) (k : State → State) :
    decideOther k s = .fault .noDecideRule := by
  simp only [decideOther, hp, if_neg hinfo]

/-- The learned test has no meaning outside the channels 1..16 (R174). -/
theorem decideConfirm_info_bad_channel (hsnd : s.phase ≠ .snd) (ho : reqOp s.req = opInfo)
    (hv : validChannel (reqArg s.req) = false) (m : Word) :
    decideConfirm m s = .refused .channelPrecondition := by
  have hne : opInfo ≠ opCheck := by decide
  cases hp : s.phase with
  | chk => simp [decideConfirm, hp, ho, hne, withChannel, hv]
  | snd => exact absurd hp hsnd
  | inf => simp [decideConfirm, hp, ho, withChannel, hv]

theorem step_tx_refused {r : Refusal} (hs : s.staged = none) (ht : s.turn = .engine) (hf : s.fsm = .tx)
    (hr : frameFor s.phase s.req = .error r) : step s = .refused r := by
  simp only [step, fetch, ht, hf, State.txFrame, hs, hr]

theorem decode_response_no_marker {b : Buf} (h : b.b0 ≠ startMarker) :
    decode (.wireIn b.toList) = .error .noStartMarker := by
  simp only [decode, Buf.toList, decodeResponse, if_pos h]

theorem step_decide_no_marker (ht : s.turn = .engine) (hf : s.fsm = .decide) (h : s.rx.b0 ≠ startMarker) :
    step s = .refused (.undecodable .noStartMarker) := by
  simp only [step, fetch_response ht hf, decode_response_no_marker h]

end NoRule

/-- Settles O43: the missing rows of R200, the channel's precondition, and the two fetches without an instruction. -/
theorem stepsOutsideTheRulesStop : Obligations.StepsOutsideTheRulesStop := by
  intro len b3 b4 b5 b6 s
  refine ⟨fun hf hp hcheck hinfo => ?_, fun hf hp hinfo => ⟨?_, ?_⟩, fun hf hsnd ho hbad => ?_,
    fun r hs ht hf => step_tx_refused hs ht hf, fun ht hf => step_decide_no_marker ht hf⟩
  · exact (inDecide_of_decide hf _).trans (decideConfirm_chk_no_rule hp hcheck hinfo _)
  · exact (inDecide_of_decide hf _).trans (decideConfirm_inf_no_rule hp hinfo _)
  · exact (inDecide_of_decide hf _).trans (decideOther_inf_no_rule hp hinfo _)
  · exact (inDecide_of_decide hf _).trans
      (decideConfirm_info_bad_channel hsnd ho ((validChannel_eq_false_iff _).2 hbad) _)

end Sys2Proof.Machine

/-! Progress: from the invariant every turn has a step, the host's and the reset as well as the engine's. -/

namespace Sys2Proof.Machine

/-- A reset turn is the reset input, on the state with its turn used up (R260 to R262). -/
theorem step_reset {s : State} (h : s.turn = .reset) :
    step s = .next (State.applyReset { s with agenda := s.agenda.tail }) := by
  simp [step, fetch, quiet, h]

/-- Settles O55: turn by turn. Only the engine's turn needs the invariant (`engine_goes_on`); the host's accesses and
the reset have a step from every state. -/
theorem invariantGoesOn : Obligations.InvariantGoesOn := by
  intro s hi
  cases ht : s.turn with
  | engine => exact engine_goes_on hi ht
  | hostRead i => exact ⟨_, step_hostRead ht⟩
  | hostWrite i v => exact ⟨_, step_hostWrite ht⟩
  | hostLoad addr => exact ⟨_, step_outside_block (v := 0#16) (.inl ht)⟩
  | hostStore addr v => exact ⟨_, step_outside_block (.inr ht)⟩
  | hostWait => exact ⟨_, step_hostWait ht⟩
  | reset => exact ⟨_, step_reset ht⟩

end Sys2Proof.Machine

/-! The reset: what every register then reads, from whatever state it comes (R260, R261), and the invariant. -/

namespace Sys2Proof.Machine

/-- Each of the 32 indices, the reserved ones and the computed `CKS_OUT` included, reads 0 at reset (R260). -/
@[simp] theorem State.regRead_reset : ∀ i : RegIndex, State.reset.regRead i = 0x0000#16 := by
  decide

/-- No register reads a field that a reset leaves standing: not the parameters, the channel or the records (R262). -/
theorem State.regRead_applyReset_eq_reset (s : State) (i : RegIndex) :
    s.applyReset.regRead i = State.reset.regRead i := rfl

/-- A reset of the state at reset changes nothing. -/
theorem State.applyReset_reset : State.reset.applyReset = State.reset := rfl

/-- The default parameters are legal (R6). -/
theorem Params.default_legal : Params.default.Legal := by
  decide

/-- Settles O50: index by index (`State.regRead_reset`); the hidden state and the output are fields of the reset
state. -/
theorem resetRegistersAreZero : Obligations.ResetRegistersAreZero :=
  ⟨State.regRead_reset, rfl, rfl, rfl⟩

/-- Settles O51: the step is the reset input on the rest of the agenda (`step_reset`). The registers then read as in
the state at reset, and the fields that are no registers stay. -/
theorem resetAbandonsExchange : Obligations.ResetAbandonsExchange := by
  intro s rest ha
  have hstep := step_reset (State.turn_of_agenda ha)
  have hregs (i : RegIndex) : (State.applyReset { s with agenda := s.agenda.tail }).regRead i = 0x0000#16 :=
    (State.regRead_applyReset_eq_reset _ i).trans (State.regRead_reset i)
  have hrest : s.agenda.tail = rest := by rw [ha, List.tail_cons]
  exact ⟨_, hstep, hregs, rfl, rfl, rfl, rfl, rfl, rfl, hrest⟩

/-- Settles O53: a reset meets the invariant under legal parameters (`State.applyReset_inv`), and the reset state is
its own reset, with the default parameters. -/
theorem resetMeetsInvariant : Obligations.ResetMeetsInvariant := by
  have h := State.applyReset_inv (s := State.reset) Params.default_legal
  rwa [State.applyReset_reset] at h

end Sys2Proof.Machine
